-- ==== Sys2Proof/Word.lean ====
section
/-! DEFINITION. The word types of the two ports: bytes and the multi-byte fields that cross a port (R163). -/

namespace Sys2Proof

/-- One byte on MOSI, MISO, RXD or TXD. -/
abbrev Byte := BitVec 8

/-- A 16-bit field of a frame, signed or unsigned as its rule says. -/
abbrev U16 := BitVec 16

/-- A 32-bit field of a frame, signed or unsigned as its rule says. -/
abbrev U32 := BitVec 32

end Sys2Proof
end

