-- ==== Sys2Proof/Syntax.lean ====
section
/-! DEFINITION. The commands: one constructor of `Instr` per row of spec/opcode_table.json.

A request carries the port it arrived on and the raw payload fields of R161 and R163 (the widths of the frame, before any
range check). The other rows carry what the outside decides at that event: bytes on a line, a pin's level, a block. -/

namespace Sys2Proof

/-- The two ports (Introduction, "The two masters and their ports"). -/
inductive Port where
  | meter
  | survey
  deriving DecidableEq, Repr, Inhabited

/-- The five constants blocks, in block order (R146). -/
inductive Block where
  | cal
  | sensor
  | tide
  | settle
  | loop
  deriving DecidableEq, Repr, Inhabited

/-- The request codes of R161. -/
inductive Req where
  | sample | readLive | status | readClock | setClock | readEvents | setMask | readMask | readItem | writeItem
  | commit | discard | readDigest | openSurvey | closeSurvey | resume | setLine | setPosition | occupy | occupyNext
  | endOccupation | abandon | readLogFrom | readLogNext | purge | loadBase | dropBase | readBases | softReset
  deriving DecidableEq, Repr, Inhabited

/-- The item a WRITE ITEM names, with the raw fields of its image (R163); reserved bytes are ignored on write and have no
field. `absent` is a block and item number that name no item, and `absentBlock` the number of a block that does not exist with no
item number behind it: R161 leaves both to the WRITE ITEM rule, whatever the length. -/
inductive ItemWrite where
  | calHeader (n : Byte) (tol : U16)
  | calInterval (i : Byte) (g : U32) (f : U32)
  | sensor (ox oy : U16) (kt : U32) (lt : U16) (tc : U32) (shift : Byte)
  | tideHeader (m enable : Byte) (delta : U16)
  | constituent (k species : Byte) (a : U16) (f p : U32)
  | settle (q : U16) (a e gapLimit : Byte) (minCount : U16)
  | loop (limit ll : U32)
  | absent (block item : Byte)
  | absentBlock (block : Byte)
  deriving DecidableEq, Repr, Inhabited

/-- The commands of the SC410. -/
inductive Instr where
  /-- SAMPLE (R16): sequence number, raw reading, two tilts, temperature deviation, meter flags. -/
  | sample (p : Port) (seq : Byte) (r : U32) (tx ty dT : U16) (flags : Byte)
  /-- READ LIVE (R40). -/
  | readLive (p : Port)
  /-- STATUS (R104, R163). -/
  | status (p : Port)
  /-- READ CLOCK (R12). -/
  | readClock (p : Port)
  /-- SET CLOCK (R10): the new value. -/
  | setClock (p : Port) (v : U32)
  /-- READ EVENTS (R166). -/
  | readEvents (p : Port)
  /-- SET MASK (R165): the event word. -/
  | setMask (p : Port) (w : U16)
  /-- READ MASK (R165). -/
  | readMask (p : Port)
  /-- READ ITEM (R149): block and item number. -/
  | readItem (p : Port) (block item : Byte)
  /-- WRITE ITEM (R148): the item and its raw fields. -/
  | writeItem (p : Port) (w : ItemWrite)
  /-- COMMIT (R151). -/
  | commit (p : Port)
  /-- DISCARD (R154). -/
  | discard (p : Port)
  /-- READ DIGEST (R155). -/
  | readDigest (p : Port)
  /-- OPEN SURVEY (R132): survey number, first station id, step. -/
  | openSurvey (p : Port) (n : U16) (id : U32) (step : Byte)
  /-- CLOSE SURVEY (R133). -/
  | closeSurvey (p : Port)
  /-- RESUME (R134). -/
  | resume (p : Port)
  /-- SET LINE (R135): next station id and step. -/
  | setLine (p : Port) (id : U32) (step : Byte)
  /-- SET POSITION (R136): indicator, latitude, longitude. -/
  | setPosition (p : Port) (ind : Byte) (lat lon : U32)
  /-- OCCUPY (R62): kind, station id, latitude, longitude. -/
  | occupy (p : Port) (kind : Byte) (id lat lon : U32)
  /-- OCCUPY NEXT (R63). -/
  | occupyNext (p : Port)
  /-- END (R82). -/
  | endOccupation (p : Port)
  /-- ABANDON (R83). -/
  | abandon (p : Port)
  /-- READ LOG FROM (R99): the start sequence. -/
  | readLogFrom (p : Port) (q : U32)
  /-- READ LOG NEXT (R100). -/
  | readLogNext (p : Port)
  /-- PURGE (R105): the last sequence to be removed. -/
  | purge (p : Port) (q : U32)
  /-- LOAD BASE (R109): station id and adopted value. -/
  | loadBase (p : Port) (id value : U32)
  /-- DROP BASE (R110): station id. -/
  | dropBase (p : Port) (id : U32)
  /-- READ BASES (R112): the start id. -/
  | readBases (p : Port) (start : U32)
  /-- SOFT RESET (R138). -/
  | softReset (p : Port)
  /-- METER_FRAME_REJECT (R158): CSn rises and the bytes received are examined. -/
  | meterFrameReject (bytes : List Byte)
  /-- METER_FRAME_DISCARD (R157): CSn rises on a transaction that began with the slot in TAKING. -/
  | meterFrameDiscard
  /-- CSN_FALL (R157): a transaction begins, of which so many complete bytes are clocked. -/
  | csnFall (clocked : Nat)
  /-- SURVEY_FRAME_REJECT (R159): these bytes arrive on RXD. -/
  | surveyFrameReject (bytes : List Byte)
  /-- SURVEY_FRAME_OVERRUN (R159): these bytes arrive on RXD while a request is outstanding. -/
  | surveyFrameOverrun (bytes : List Byte)
  /-- INTER_BYTE_TIMEOUT (R159): the inter-byte timer expires. -/
  | interByteTimeout
  /-- RESPONSE_SENT (R160): the last byte of the survey port's response leaves TXD. -/
  | responseSent
  /-- SECOND_BOUNDARY (R8): the divider completes a second. -/
  | secondBoundary
  /-- GAP_EXPIRY (R74): the second boundary at which the gap counter reaches the gap limit. -/
  | gapExpiry
  /-- LIVE_READING_STALE (R38): the second boundary at which the staleness count reaches the gap limit. -/
  | liveReadingStale
  /-- CLOSURE_STEP (R123). -/
  | closureStep
  /-- BLOCK_WRITE_COMPLETE (R152). -/
  | blockWriteComplete
  /-- DIGEST_COMPLETE (R155). -/
  | digestComplete
  /-- VDD_RISE (R138). -/
  | vddRise
  /-- VDD_FALL (R137), with VBAK's level at that moment (true: it holds the retained domain). -/
  | vddFall (vbak : Bool)
  /-- VBAK_FAIL (R137). -/
  | vbakFail
  /-- RESETN_ASSERT (R138). -/
  | resetnAssert
  /-- RESETN_RELEASE (R138). -/
  | resetnRelease
  /-- NV_IMAGE_LOSS (R150): the block whose image loses content. -/
  | nvImageLoss (b : Block)
  /-- START_UP_STAGE (R139), with BAUDSEL's level at that moment (true: high), which stage 2 samples (R159). -/
  | startUpStage (baudsel : Bool)
  /-- OPERATION_ANSWER (R157, R160): the operation of the request taken on this port gives its answer. -/
  | operationAnswer (p : Port)
  deriving DecidableEq, Repr, Inhabited

end Sys2Proof
end

