-- ==== Sys2Proof/Machine/Types.lean ====
section
/-! DEFINITION. The pieces of the SC410's state as types: every register, counter, buffer and queue the spec gives it, as plain
data. `State` (Machine/State.lean) puts them together. -/

namespace Sys2Proof.Machine

/-! ## Retained domain -/

/-- The survey clock (R7): value in seconds, set flag, sub-second divider in crystal periods. -/
structure Clock where
  value : Nat
  isSet : Bool
  divider : Nat
  deriving DecidableEq, Repr, Inhabited

/-- The survey states (R130). -/
inductive SurveyState where
  | unset
  | ready
  | survey
  | held
  deriving DecidableEq, Repr, Inhabited

/-- The restart causes (R138). -/
inductive Cause where
  | powerLost
  | powerRetained
  | resetLine
  | soft
  deriving DecidableEq, Repr, Inhabited

/-- The survey controller's retained items (R130). -/
structure SurveyCtl where
  state : SurveyState
  number : Nat
  nextId : Option Nat
  step : Int
  lastCause : Cause
  deriving DecidableEq, Repr, Inhabited

/-- A position in micro-degrees. -/
structure Position where
  lat : Int
  lon : Int
  deriving DecidableEq, Repr, Inhabited

/-- An entry of the base table (R108). -/
structure BaseEntry where
  id : Nat
  value : Int
  deriving DecidableEq, Repr, Inhabited

/-- A tie's figures: its record's sequence number, its mean time and its offset (R114, R116). -/
structure Tie where
  seq : Nat
  time : Nat
  off : Int
  deriving DecidableEq, Repr, Inhabited

/-- The prediction pair (R118). -/
structure Prediction where
  off : Int
  dt : Nat
  deriving DecidableEq, Repr, Inhabited

/-- The loop counter and the loop context (R114). `opening` is present exactly while the open flag is set, and the number of
the open loop is then the counter. -/
structure LoopCtx where
  counter : Nat
  opening : Option Tie
  prediction : Option Prediction
  deriving DecidableEq, Repr, Inhabited

/-- A closure entry (R117): the loop number, the opening tie and the closing tie. -/
structure ClosureEntry where
  loop : Nat
  a : Tie
  b : Tie
  deriving DecidableEq, Repr, Inhabited

/-- What was occupied (R62). -/
inductive Kind where
  | station
  | base
  deriving DecidableEq, Repr, Inhabited

/-- Where a record's position came from (R91). -/
inductive Source where
  | given
  | carried
  deriving DecidableEq, Repr, Inhabited

/-- The state of a record (R92). -/
inductive RecState where
  | active
  | ended
  | abandoned
  deriving DecidableEq, Repr, Inhabited

/-- The end cause of a record (R92). -/
inductive EndCause where
  | none
  | meterEnd
  | surveyEnd
  | meterAbandon
  | surveyAbandon
  | reset
  | power
  deriving DecidableEq, Repr, Inhabited

/-- The result part of a record (R93). -/
structure Result where
  n : Nat
  rejected : Nat
  mean : Int
  time : Nat
  scatter : Nat
  gaps : Nat
  losses : Nat
  deriving DecidableEq, Repr, Inhabited

/-- The ten quality flags of a record (R94). -/
structure Quality where
  carried : Bool
  loss : Bool
  rangeSeen : Bool
  tiltSeen : Bool
  clampSeen : Bool
  tideAbsent : Bool
  short : Bool
  saturated : Bool
  wide : Bool
  tieRejected : Bool
  deriving DecidableEq, Repr, Inhabited

/-- The reduction status of a record (R95). -/
inductive RedStatus where
  | none
  | untied
  | provisional
  | final
  | unclosed
  deriving DecidableEq, Repr, Inhabited

/-- Drift and reduced value (R95). -/
structure Figures where
  drift : Int
  reduced : Int
  deriving DecidableEq, Repr, Inhabited

/-- The reduction part of a record (R95): the figures are absent exactly while the status is NONE. -/
structure Reduction where
  status : RedStatus
  figures : Option Figures
  predicted : Bool
  misclosed : Bool
  long : Bool
  zeroSpan : Bool
  deriving DecidableEq, Repr, Inhabited

/-- The tie role of a record (R95). -/
inductive TieRole where
  | none
  | first
  | closing
  deriving DecidableEq, Repr, Inhabited

/-- An occupation record (R91 to R95). -/
structure Record where
  seq : Nat
  survey : Nat
  kind : Kind
  station : Nat
  pos : Position
  source : Source
  digest : U32
  loopNo : Nat
  origin : Port
  start : Nat
  state : RecState
  stop : Option Nat
  cause : EndCause
  result : Option Result
  quality : Quality
  red : Reduction
  role : TieRole
  deriving DecidableEq, Repr, Inhabited

/-- The station log, oldest record first, and its sequence counter (R87, R88). -/
structure Log where
  records : List Record
  counter : Nat
  deriving DecidableEq, Repr, Inhabited

/-! ## Responses -/

/-- The status codes of R162. -/
inductive Status where
  | ok | frame | unknown | denied | state | range | busy | active | idle | noBase | noId | noPosition | logFull
  | tableFull | queueFull | clockStep | inUse | invalid | noCursor
  deriving DecidableEq, Repr, Inhabited

/-- The flags of a sample (R32). -/
structure SampleFlags where
  range : Bool
  tilt : Bool
  meter : Bool
  tideClamp : Bool
  tideOff : Bool
  noClock : Bool
  noPos : Bool
  deriving DecidableEq, Repr, Inhabited

/-- The live reading record (R36). -/
structure Live where
  seq : Nat
  time : Nat
  raw : Nat
  interval : Nat
  offset : Nat
  rx : Int
  ry : Int
  dT : Int
  cal : Int
  tiltc : Int
  tempc : Int
  tidec : Int
  v : Int
  flags : SampleFlags
  deriving DecidableEq, Repr, Inhabited

/-- The occupation state (R60), as a name. -/
inductive OccName where
  | none
  | settling
  | settled
  deriving DecidableEq, Repr, Inhabited

/-- What READ LIVE returns (R40). -/
structure LiveReport where
  live : Option Live
  stale : Bool
  lost : Nat
  state : OccName
  run : Nat
  notQuiet : Nat
  n : Nat
  mean : Option Int
  deriving DecidableEq, Repr, Inhabited

/-- The store states (R146). -/
inductive StoreState where
  | clean
  | dirty
  | committing
  deriving DecidableEq, Repr, Inhabited

/-- One value for each constants block. -/
structure PerBlock (α : Type) where
  cal : α
  sensor : α
  tide : α
  settle : α
  loop : α
  deriving DecidableEq, Repr, Inhabited

/-- What STATUS returns (R163). -/
structure StatusReport where
  survey : SurveyState
  store : StoreState
  computing : Bool
  defaulted : PerBlock Bool
  cause : Cause
  startUp : Bool
  number : Nat
  count : Nat
  oldest : Nat
  newest : Nat
  depth : Nat
  step : Int
  nextId : Nat
  overruns : Nat
  version : Nat
  deriving DecidableEq, Repr, Inhabited

/-- One calibration interval (R19). -/
structure Interval where
  g : Int
  f : Nat
  deriving DecidableEq, Repr, Inhabited

/-- The CAL block (R19). -/
structure CalBlock where
  n : Nat
  tol : Nat
  intervals : List Interval
  deriving DecidableEq, Repr, Inhabited

/-- The SENSOR block (R25). -/
structure SensorBlock where
  ox : Int
  oy : Int
  kt : Nat
  lt : Nat
  tc : Int
  shift : Nat
  deriving DecidableEq, Repr, Inhabited

/-- One tide constituent (R43). -/
structure Constituent where
  species : Nat
  f : Nat
  p : Nat
  a : Int
  deriving DecidableEq, Repr, Inhabited

/-- The TIDE block (R43). -/
structure TideBlock where
  m : Nat
  delta : Nat
  enabled : Bool
  parts : List Constituent
  deriving DecidableEq, Repr, Inhabited

/-- The SETTLE block (R147). -/
structure SettleBlock where
  q : Nat
  a : Nat
  e : Nat
  gapLimit : Nat
  minCount : Nat
  deriving DecidableEq, Repr, Inhabited

/-- The LOOP block (R113). -/
structure LoopBlock where
  limit : Nat
  ll : Nat
  deriving DecidableEq, Repr, Inhabited

/-- The five constants blocks. -/
structure Constants where
  cal : CalBlock
  sensor : SensorBlock
  tide : TideBlock
  settle : SettleBlock
  loop : LoopBlock
  deriving DecidableEq, Repr, Inhabited

/-- The values of one constants item (R163). -/
inductive ItemValue where
  | calHeader (n tol : Nat)
  | calInterval (v : Interval)
  | sensor (v : SensorBlock)
  | tideHeader (m : Nat) (enabled : Bool) (delta : Nat)
  | constituent (v : Constituent)
  | settle (v : SettleBlock)
  | loop (v : LoopBlock)
  deriving DecidableEq, Repr, Inhabited

/-- Why a PURGE stopped (R105). -/
inductive StopReason where
  | limit
  | active
  | loop
  deriving DecidableEq, Repr, Inhabited

/-- The payload of a response (R161). -/
inductive Payload where
  | empty
  | live (r : LiveReport)
  | status (r : StatusReport)
  | clock (value : Nat) (isSet : Bool)
  | word (w : U16)
  | item (block item : Byte) (dirty defaulted : Bool) (v : ItemValue)
  | blocks (n : Nat)
  | invalid (b : Block)
  | digest (v : U32) (computing : Bool)
  | created (seq station : Nat) (kind : Kind) (source : Source)
  | completed (seq : Nat)
  | records (rs : List Record) (atEnd skipped : Bool)
  | purged (removed oldest : Nat) (reason : StopReason)
  | baseCount (n : Nat)
  | bases (count : Nat) (entries : List (BaseEntry × Bool)) (atEnd : Bool)
  deriving DecidableEq, Repr, Inhabited

/-- A response: status byte and payload (R158, R160). -/
structure Response where
  status : Status
  payload : Payload
  deriving DecidableEq, Repr, Inhabited

/-! ## Main domain -/

/-- The meter port's response slot (R157). In TAKING it holds the answer the operation will give. -/
inductive Slot where
  | idle
  | taking (r : Response)
  | holding (r : Response)
  deriving DecidableEq, Repr, Inhabited

/-- A meter-port transaction in progress: whether it began with the slot in TAKING, and how many complete bytes are clocked
in it (R157, R158). -/
structure Txn where
  discard : Bool
  clocked : Nat
  deriving DecidableEq, Repr, Inhabited

/-- The meter port interface (R157, R17, R98, R164, R165). -/
structure MeterPort where
  slot : Slot
  txn : Option Txn
  expected : Option Nat
  cursor : Option Nat
  events : U16
  mask : U16
  deriving DecidableEq, Repr, Inhabited

/-- The survey port receiver's states (R159). -/
inductive RxState where
  | hunt
  | receive
  | discard
  deriving DecidableEq, Repr, Inhabited

/-- The survey port's rates (R159). -/
inductive Rate where
  | b57600
  | b115200
  deriving DecidableEq, Repr, Inhabited

/-- The outstanding request of the survey port (R160): its type byte, its response, and whether the response is being sent
(otherwise the operation has not yet given its answer). -/
structure Outstanding where
  code : Byte
  reply : Response
  sending : Bool
  deriving DecidableEq, Repr, Inhabited

/-- The survey port interface (R159, R160, R98, R164, R165). -/
structure SurveyPort where
  rx : RxState
  buf : List Byte
  timer : Bool
  out : Option Outstanding
  rate : Rate
  overruns : Nat
  cursor : Option Nat
  events : U16
  mask : U16
  deriving DecidableEq, Repr, Inhabited

/-- The correction chain's state (R28, R36, R18). -/
structure Chain where
  tf : Int
  primed : Bool
  live : Option Live
  stale : Bool
  lost : Nat
  deriving DecidableEq, Repr, Inhabited

/-- An entry of the latitude-factor cache (R52). -/
structure CacheEntry where
  key : Position
  lam : Nat
  phi : Nat
  l0 : Int
  l1 : Int
  l2 : Int
  deriving DecidableEq, Repr, Inhabited

/-- The occupation state with the active record's sequence number (R60). -/
inductive OccState where
  | none
  | settling (seq : Nat)
  | settled (seq : Nat)
  deriving DecidableEq, Repr, Inhabited

/-- The first accumulated sample, v₀ and t₀ (R76). -/
structure First where
  v : Int
  t : Nat
  deriving DecidableEq, Repr, Inhabited

/-- The sums part of the accumulator (R76). -/
structure Sums where
  n : Nat
  first : Option First
  sumD : Int
  sumD2 : Nat
  sumT : Int
  rejected : Nat
  wide : Bool
  saturated : Bool
  deriving DecidableEq, Repr, Inhabited

/-- The occupation part of the accumulator (R76). -/
structure Counts where
  gaps : Nat
  losses : Nat
  loss : Bool
  deriving DecidableEq, Repr, Inhabited

/-- The occupation controller (R60). In `window` a mark is true when it is not quiet, oldest first (R68). -/
structure Occupation where
  state : OccState
  run : Nat
  ref : Option Int
  window : List Bool
  gap : Nat
  sums : Sums
  counts : Counts
  staleness : Nat
  deriving DecidableEq, Repr, Inhabited

/-- The constants store's main-domain items (R146). `commit` lists the blocks a commit in progress has still to finish, the
one being written, or to be written next, first (R152): its write has begun where its image is invalid. -/
structure Store where
  work : Constants
  dirty : PerBlock Bool
  defaulted : PerBlock Bool
  commit : Option (List Block)
  digest : U32
  computing : Bool
  deriving DecidableEq, Repr, Inhabited

/-- The non-volatile images (R150). `none` is an image whose block check word does not match: never written, torn, or lost. -/
structure Images where
  cal : Option CalBlock
  sensor : Option SensorBlock
  tide : Option TideBlock
  settle : Option SettleBlock
  loop : Option LoopBlock
  deriving DecidableEq, Repr, Inhabited

/-- Supplies and the reset line (R137, R138). `restartDue`: VDD rose while RESETn was low, so the restart waits. -/
structure Supply where
  vdd : Bool
  vbak : Bool
  resetLow : Bool
  restartDue : Bool
  deriving DecidableEq, Repr, Inhabited

/-- The stages of a restart that START_UP_STAGE takes (R139, stages 2 to 5); stage 1 is taken as the restart begins. -/
inductive Stage where
  | mainDomain
  | constants
  | surveyState
  | finish
  deriving DecidableEq, Repr, Inhabited

/-- What the output lines showed: MISO in the latest transaction, TXD in the last response sent (the model's own). -/
structure Pins where
  miso : List Byte
  txd : List Byte
  deriving DecidableEq, Repr, Inhabited

end Sys2Proof.Machine
end

