-- ==== Sys2Proof/Machine/Defaults.lean ====
section
/-! DEFINITION. Reset values: the restart value of every item and the factory defaults of the constants. -/

namespace Sys2Proof.Machine

/-! ## Restart values -/

/-- The clock after POWER_LOST (R14). -/
def Clock.lost : Clock := { value := 0, isSet := false, divider := 0 }

/-- The survey controller's retained items after POWER_LOST (R130). -/
def SurveyCtl.lost : SurveyCtl := { state := .unset, number := 0, nextId := none, step := 1, lastCause := .powerLost }

/-- The loop counter and context after POWER_LOST (R114, R141). -/
def LoopCtx.lost : LoopCtx := { counter := 0, opening := none, prediction := none }

/-- The log after POWER_LOST (R90). -/
def Log.lost : Log := { records := [], counter := 1 }

/-- The event word holding RESTARTED alone: bit 0 (R163, R164). -/
def restartedWord : U16 := 0x0001

/-- The event word holding all thirteen events (R163, R165). -/
def allEvents : U16 := 0x1FFF

/-- The meter port after stage 2 (R143). -/
def MeterPort.restarted : MeterPort :=
  { slot := .idle, txn := none, expected := none, cursor := none, events := restartedWord, mask := allEvents }

/-- The survey port after stage 2, at the rate BAUDSEL selects (R143, R159). -/
def SurveyPort.restarted (baudsel : Bool) : SurveyPort :=
  { rx := .hunt, buf := [], timer := false, out := none, rate := if baudsel then .b115200 else .b57600, overruns := 0,
    cursor := none, events := restartedWord, mask := allEvents }

/-- The correction chain after stage 2 (R28, R37, R18). -/
def Chain.restarted : Chain := { tf := 0, primed := false, live := none, stale := true, lost := 0 }

/-- The sums part, cleared (R76). -/
def Sums.clear : Sums :=
  { n := 0, first := none, sumD := 0, sumD2 := 0, sumT := 0, rejected := 0, wide := false, saturated := false }

/-- The occupation part, cleared (R76). -/
def Counts.clear : Counts := { gaps := 0, losses := 0, loss := false }

/-- The quiet window after a reset: 32 quiet marks (R68). -/
def quietWindow : List Bool := List.replicate 32 false

/-- The occupation controller after stage 2 (R60, R38). -/
def Occupation.restarted : Occupation :=
  { state := .none, run := 0, ref := none, window := quietWindow, gap := 0, sums := .clear, counts := .clear,
    staleness := 0 }

/-- The factory defaults of CAL (R22). -/
def CalBlock.factory : CalBlock :=
  { n := 80, tol := 20, intervals := (List.range 80).map fun i => { g := (i : Int) * 1000000, f := 2 ^ 30 } }

/-- The factory defaults of SENSOR (R25). -/
def SensorBlock.factory : SensorBlock := { ox := 0, oy := 0, kt := 19327, lt := 300, tc := 0, shift := 0 }

/-- The factory defaults of TIDE (R45). -/
def TideBlock.factory : TideBlock :=
  { m := 0, delta := 19005, enabled := false, parts := List.replicate 16 { species := 0, f := 0, p := 0, a := 0 } }

/-- The factory defaults of SETTLE (R147). -/
def SettleBlock.factory : SettleBlock := { q := 50, a := 16, e := 6, gapLimit := 3, minCount := 60 }

/-- The factory defaults of LOOP (R113). -/
def LoopBlock.factory : LoopBlock := { limit := 2000, ll := 21600 }

/-- The factory defaults of all five blocks. -/
def Constants.factory : Constants :=
  { cal := .factory, sensor := .factory, tide := .factory, settle := .factory, loop := .factory }

/-- The same mark for every block. -/
def PerBlock.all {α : Type} (x : α) : PerBlock α := { cal := x, sensor := x, tide := x, settle := x, loop := x }

/-- Five images never written (R150). -/
def Images.blank : Images := { cal := none, sensor := none, tide := none, settle := none, loop := none }

/-- The constants store after stage 3 over images never written (R156). -/
def Store.firstPowerOn : Store :=
  { work := .factory, dirty := .all false, defaulted := .all true, commit := none, digest := 0, computing := true }

end Sys2Proof.Machine
end

