-- ==== Sys2Proof/Machine/State.lean ====
section
/-! DEFINITION. The state of the SC410, its faults and refusals, and the state after reset.

The fields of `State` stand in the order of INVENTORY.md: the retained domain (R137), the main domain (R143), the
non-volatile images (R146), supplies and start-up (R138, R139), and the model's own fields. -/

namespace Sys2Proof.Machine

/-- Why the machine stops. The spec gives the part no fault: every request is answered with a status code (R162) and every
event has an effect or none. No constructor, so no fault can be raised: safe. -/
inductive Fault where
  deriving DecidableEq, Repr

/-- Why a command has no meaning. -/
inductive Refusal where
  /-- Raised by `exec` for a row of the table not modelled yet, by its mnemonic. Safe: no state follows it. No arm raises it. -/
  | notModelled (mnemonic : String)
  deriving DecidableEq, Repr

/-- The state of the part. `pins`, `free`, `pauses` and `pending` are the model's own (logs 14, 20, 21). -/
structure State where
  clock : Clock
  survey : SurveyCtl
  bases : List BaseEntry
  loop : LoopCtx
  queue : List ClosureEntry
  log : Log
  mark : Bool
  meter : MeterPort
  uart : SurveyPort
  chain : Chain
  cache : Option CacheEntry
  occ : Occupation
  closurePos : Option Nat
  pendingPos : Option Position
  store : Store
  nv : Images
  supply : Supply
  startUp : Option Stage
  pins : Pins
  free : Nat
  pauses : Bool
  pending : List Instr
  deriving DecidableEq, Repr, Inhabited

/-- The part after its first power-on: the POWER_LOST restart (R138, R141) has run through its stages (R139), with images
never written (R150), and start-up has ended. DESIGN CHOICE (log 1): reset is taken at the end of start-up. DESIGN CHOICE
(log 2): BAUDSEL low, VBAK present, nothing shown yet on MISO and TXD, no free value taken yet, no pause between two block
writes. -/
def State.reset : State :=
  { clock := .lost, survey := .lost, bases := [], loop := .lost, queue := [], log := .lost, mark := true,
    meter := .restarted, uart := .restarted false, chain := .restarted, cache := none, occ := .restarted,
    closurePos := none, pendingPos := none, store := .firstPowerOn, nv := .blank,
    supply := { vdd := true, vbak := true, resetLow := false, restartDue := false }, startUp := none,
    pins := { miso := [], txd := [] }, free := 0, pauses := false, pending := [] }

end Sys2Proof.Machine
end

