-- ==== Sys2Proof/Config.lean ====
section
/-! DEFINITION. What an implementation fixes, and the free values: constants with no body, so that no proof can see them. -/

namespace Sys2Proof

/-- FREE VALUE (log 4): what a supply domain holds once it has lost its supply, and until the restart's own stages write it
(R137, R139). The step reads it at the counter `State.free` and takes from it only the fields of the domain that was lost. -/
opaque Config.lostState : Nat → Machine.State

/-- FREE VALUE (log 10): the adopted value read for a station id that the base table does not hold. R116 rules the case out
("the entry lies within the base table by check 6 of R64"); it stands only in states that no run reaches. -/
opaque Config.absentBase : Nat → Int

/-- The part version STATUS reports: 1 for the parts the manual describes (R163). -/
def Config.version : Nat := 1

end Sys2Proof
end

