-- ==== Sys2Proof/Machine/Operands.lean ====
section
/-! DEFINITION. The arithmetic of Chapter 1 (R1 to R5) and the reading and range checks of request parameters (R6, R163).

Every formula is computed in `Int` and `Nat`, so every intermediate value is exact (R1). -/

namespace Sys2Proof.Machine

/-! ## Rounding, floor, square root, clamps -/

/-- `round(a / b)` of R2: the nearest integer, halves away from zero, for a positive divisor. -/
def roundDiv (a : Int) (b : Nat) : Int :=
  if a < 0 then -(((2 * a.natAbs + b) / (2 * b) : Nat) : Int) else (((2 * a.natAbs + b) / (2 * b) : Nat) : Int)

/-- `floor(a / b)` of R3, for a positive divisor. -/
def floorDiv (a : Int) (b : Nat) : Int := a / (b : Int)

/-- `a mod m` of R3, from 0 to m − 1, for a positive modulus. -/
def modNat (a : Int) (m : Nat) : Nat := (a % (m : Int)).toNat

/-- One bit after another of a square root, from bit `k - 1` down: the greatest `acc + c` with `c < 2^k` whose square does
not exceed `x`. -/
def isqrtBits (x : Nat) : Nat → Nat → Nat
  | 0, acc => acc
  | k + 1, acc => if (acc + 2 ^ k) * (acc + 2 ^ k) ≤ x then isqrtBits x k (acc + 2 ^ k) else isqrtBits x k acc

/-- The integer square root of R4. -/
def isqrt (x : Nat) : Nat := isqrtBits x (x.log2 / 2 + 1) 0

/-- The clamp of R5. -/
def clampInt (lo hi x : Int) : Int := if x < lo then lo else if hi < x then hi else x

/-- A saturating counter's sum (R5). -/
def satAdd (top a b : Nat) : Nat := if top < a + b then top else a + b

/-! ## Parameters -/

/-- The greatest station id (R6). -/
def maxStation : Nat := 999999

/-- A station id lies from 1 to 999,999 (R6). -/
def stationOk (id : Nat) : Bool := decide (1 ≤ id) && decide (id ≤ maxStation)

/-- A survey number lies from 1 to 65,535 (R6). -/
def surveyNumberOk (n : Nat) : Bool := decide (1 ≤ n) && decide (n ≤ 65535)

/-- A step lies from −99 to −1 or from 1 to 99 (R66, R132). -/
def stepOk (step : Int) : Bool := decide (-99 ≤ step) && decide (step ≤ 99) && decide (step ≠ 0)

/-- A latitude and a longitude lie within the ranges of R6, both ends included. -/
def Position.ok (p : Position) : Bool :=
  decide (-90000000 ≤ p.lat) && decide (p.lat ≤ 90000000) && decide (-180000000 ≤ p.lon) && decide (p.lon ≤ 180000000)

/-- The position two raw fields name. -/
def positionOf (lat lon : U32) : Position := { lat := lat.toInt, lon := lon.toInt }

/-- A signed 16-bit field of SAMPLE: −32,768 is taken as −32,767 (R6). -/
def sampleField (x : U16) : Int := if x.toInt = -32768 then -32767 else x.toInt

/-- The kind code of OCCUPY: 0 STATION, 1 BASE (R161); any other is no kind (R163). -/
def kindOf (b : Byte) : Option Kind :=
  if b = 0 then some .station else if b = 1 then some .base else none

/-- The blocks by number: CAL 1, SENSOR 2, TIDE 3, SETTLE 4, LOOP 5 (R163). -/
def blockOf (b : Byte) : Option Block :=
  match b.toNat with
  | 1 => some .cal
  | 2 => some .sensor
  | 3 => some .tide
  | 4 => some .settle
  | 5 => some .loop
  | _ => none

/-- The number of a block (R163). -/
def blockNumber : Block → Byte
  | .cal => 1
  | .sensor => 2
  | .tide => 3
  | .settle => 4
  | .loop => 5

/-- The item number of the CAL and TIDE headers (R163). -/
def headerItem : Byte := 0xFF

/-! ## Values per block -/

/-- The value for one block. -/
def PerBlock.get {α : Type} (m : PerBlock α) : Block → α
  | .cal => m.cal
  | .sensor => m.sensor
  | .tide => m.tide
  | .settle => m.settle
  | .loop => m.loop

/-- The same values with one block's replaced. -/
def PerBlock.set {α : Type} (m : PerBlock α) (b : Block) (x : α) : PerBlock α :=
  match b with
  | .cal => { m with cal := x }
  | .sensor => { m with sensor := x }
  | .tide => { m with tide := x }
  | .settle => { m with settle := x }
  | .loop => { m with loop := x }

/-- The block order (R146). -/
def blockOrder : List Block := [.cal, .sensor, .tide, .settle, .loop]

/-- Some block's mark is set. -/
def PerBlock.any (m : PerBlock Bool) : Bool := m.cal || m.sensor || m.tide || m.settle || m.loop

/-! ## Ranges of the constants (R19, R25, R43, R147, R113) -/

/-- `lo ≤ x ≤ hi` on naturals. -/
def within (lo hi x : Nat) : Bool := decide (lo ≤ x) && decide (x ≤ hi)

/-- `lo ≤ x ≤ hi` on integers. -/
def withinInt (lo hi x : Int) : Bool := decide (lo ≤ x) && decide (x ≤ hi)

/-- Every field of an item lies within its accepted range. -/
def ItemValue.inRange : ItemValue → Bool
  | .calHeader n tol => within 1 80 n && within 0 1000 tol
  | .calInterval v => withinInt 0 100000000 v.g && within 1 2147483648 v.f
  | .sensor v =>
    withinInt (-32767) 32767 v.ox && withinInt (-32767) 32767 v.oy && within 0 1048575 v.kt && within 1 3000 v.lt &&
      withinInt (-2147483648) 2147483647 v.tc && within 0 10 v.shift
  | .tideHeader m _ delta => within 0 16 m && within 0 32767 delta
  | .constituent v =>
    within 0 2 v.species && within 0 4294967295 v.f && within 0 16777215 v.p && withinInt (-32767) 32767 v.a
  | .settle v =>
    within 1 65535 v.q && within 4 32 v.a && within 1 31 v.e && within 1 30 v.gapLimit && within 1 65535 v.minCount
  | .loop v => within 1 10000000 v.limit && within 600 86400 v.ll

/-- Every field of every item of CAL is in range (R150), with its 80 intervals. -/
def CalBlock.inRange (c : CalBlock) : Bool :=
  (ItemValue.calHeader c.n c.tol).inRange && decide (c.intervals.length = 80) &&
    c.intervals.all fun v => (ItemValue.calInterval v).inRange

/-- The value reached by following an interval to its end (R21). -/
def Interval.reach (v : Interval) : Int := v.g + roundDiv (1000000 * (v.f : Int)) (2 ^ 30)

/-- Neighbours in a list of intervals agree within `tol` (R21). -/
def coherentFrom (tol : Nat) : List Interval → Bool
  | a :: b :: rest => decide ((b.g - a.reach).natAbs ≤ tol) && coherentFrom tol (b :: rest)
  | _ => true

/-- The CAL block is coherent (R21): intervals 0 to N − 1. -/
def CalBlock.coherent (c : CalBlock) : Bool := coherentFrom c.tol (c.intervals.take c.n)

/-- Every field of every item of TIDE is in range (R43), with its 16 constituents. -/
def TideBlock.inRange (t : TideBlock) : Bool :=
  (ItemValue.tideHeader t.m t.enabled t.delta).inRange && decide (t.parts.length = 16) &&
    t.parts.all fun v => (ItemValue.constituent v).inRange

/-- The block a written item belongs to, if it is one of the five (R148, check 2). -/
def writtenBlock : ItemWrite → Option Block
  | .calHeader .. => some .cal
  | .calInterval .. => some .cal
  | .sensor .. => some .sensor
  | .tideHeader .. => some .tide
  | .constituent .. => some .tide
  | .settle .. => some .settle
  | .loop .. => some .loop
  | .absent b _ => blockOf b
  | .absentBlock b => blockOf b

/-- The values a WRITE ITEM carries, where the item exists and every enumerated field holds a code of R163: the first half of
check 6 of R148. The ranges are `ItemValue.inRange`. -/
def writtenValue : ItemWrite → Option ItemValue
  | .calHeader n tol => some (.calHeader n.toNat tol.toNat)
  | .calInterval i g f => if i.toNat < 80 then some (.calInterval { g := g.toInt, f := f.toNat }) else none
  | .sensor ox oy kt lt tc shift =>
    some (.sensor { ox := ox.toInt, oy := oy.toInt, kt := kt.toNat, lt := lt.toNat, tc := tc.toInt, shift := shift.toNat })
  | .tideHeader m enable delta =>
    if enable = 0 then some (.tideHeader m.toNat false delta.toNat)
    else if enable = 1 then some (.tideHeader m.toNat true delta.toNat)
    else none
  | .constituent k species a f p =>
    if k.toNat < 16 then some (.constituent { species := species.toNat, f := f.toNat, p := p.toNat, a := a.toInt })
    else none
  | .settle q a e gapLimit minCount =>
    some (.settle { q := q.toNat, a := a.toNat, e := e.toNat, gapLimit := gapLimit.toNat, minCount := minCount.toNat })
  | .loop limit ll => some (.loop { limit := limit.toNat, ll := ll.toNat })
  | .absent _ _ => none
  | .absentBlock _ => none

/-- The item number a WRITE ITEM names (R163). -/
def writtenItem : ItemWrite → Nat
  | .calHeader .. => 255
  | .calInterval i .. => i.toNat
  | .sensor .. => 0
  | .tideHeader .. => 255
  | .constituent k .. => k.toNat
  | .settle .. => 0
  | .loop .. => 0
  | .absent _ i => i.toNat
  | .absentBlock _ => 0

/-- Check 6 of R148: the item exists and every field lies within its accepted range; the values then. -/
def acceptedValue (w : ItemWrite) : Option ItemValue :=
  match writtenValue w with
  | some v => if v.inRange then some v else none
  | none => none

/-- A whole item written into a set of constants (R148); `item` is the number of the interval or constituent. -/
def Constants.write (c : Constants) (item : Nat) : ItemValue → Constants
  | .calHeader n tol => { c with cal := { c.cal with n := n, tol := tol } }
  | .calInterval v => { c with cal := { c.cal with intervals := c.cal.intervals.set item v } }
  | .sensor v => { c with sensor := v }
  | .tideHeader m enabled delta => { c with tide := { c.tide with m := m, enabled := enabled, delta := delta } }
  | .constituent v => { c with tide := { c.tide with parts := c.tide.parts.set item v } }
  | .settle v => { c with settle := v }
  | .loop v => { c with loop := v }

/-- The item a READ ITEM names, as it stands in a set of constants (R149); none where no such item exists. -/
def Constants.read (c : Constants) (block item : Byte) : Option ItemValue :=
  match blockOf block with
  | none => none
  | some .cal =>
    if item = headerItem then some (.calHeader c.cal.n c.cal.tol)
    else if item.toNat < 80 then (c.cal.intervals[item.toNat]?).map .calInterval
    else none
  | some .sensor => if item = 0 then some (.sensor c.sensor) else none
  | some .tide =>
    if item = headerItem then some (.tideHeader c.tide.m c.tide.enabled c.tide.delta)
    else if item.toNat < 16 then (c.tide.parts[item.toNat]?).map .constituent
    else none
  | some .settle => if item = 0 then some (.settle c.settle) else none
  | some .loop => if item = 0 then some (.loop c.loop) else none

end Sys2Proof.Machine
end

