-- ==== Sys2Proof/Decode.lean ====
section
/-! DEFINITION. Request frames read and written: the codes, payload lengths and layouts of R161 and R163, and the judgement of
a frame at each port (R158, R159). `decodeTableWord` answers none: no row of spec/opcode_table.json gives bits. -/

namespace Sys2Proof

/-! ## Multi-byte fields: least significant byte first (R163) -/

/-- A 16-bit field from its bytes. -/
def le16 (b0 b1 : Byte) : U16 := b1 ++ b0

/-- A 32-bit field from its bytes. -/
def le32 (b0 b1 b2 b3 : Byte) : U32 := b3 ++ b2 ++ b1 ++ b0

/-- The bytes of a 16-bit field. -/
def bytes16 (x : U16) : List Byte := [x.extractLsb' 0 8, x.extractLsb' 8 8]

/-- The bytes of a 32-bit field. -/
def bytes32 (x : U32) : List Byte := [x.extractLsb' 0 8, x.extractLsb' 8 8, x.extractLsb' 16 8, x.extractLsb' 24 8]

/-- The sum of some bytes modulo 256 (R158, R159). -/
def byteSum (bs : List Byte) : Byte := bs.foldl (· + ·) 0

/-- The check byte that makes the sum of a frame 0 modulo 256. -/
def checkByte (bs : List Byte) : Byte := -byteSum bs

/-! ## Codes and lengths (R161) -/

/-- The request's code: the command byte on the meter port, the type byte on the survey port. -/
def Req.code : Req → Byte
  | .sample => 0x01
  | .readLive => 0x02
  | .status => 0x03
  | .readClock => 0x04
  | .setClock => 0x05
  | .readEvents => 0x06
  | .setMask => 0x07
  | .readMask => 0x08
  | .readItem => 0x09
  | .writeItem => 0x0A
  | .commit => 0x0B
  | .discard => 0x0C
  | .readDigest => 0x0D
  | .openSurvey => 0x0E
  | .closeSurvey => 0x0F
  | .resume => 0x10
  | .setLine => 0x11
  | .setPosition => 0x12
  | .occupy => 0x13
  | .occupyNext => 0x14
  | .endOccupation => 0x15
  | .abandon => 0x16
  | .readLogFrom => 0x17
  | .readLogNext => 0x18
  | .purge => 0x19
  | .loadBase => 0x1A
  | .dropBase => 0x1B
  | .readBases => 0x1C
  | .softReset => 0x1D

/-- Every request of R161. -/
def Req.list : List Req :=
  [.sample, .readLive, .status, .readClock, .setClock, .readEvents, .setMask, .readMask, .readItem, .writeItem, .commit,
    .discard, .readDigest, .openSurvey, .closeSurvey] ++
  [.resume, .setLine, .setPosition, .occupy, .occupyNext, .endOccupation, .abandon, .readLogFrom, .readLogNext, .purge,
    .loadBase, .dropBase, .readBases, .softReset]

/-- The request a code names, if the code is in the table. -/
def Req.ofCode (b : Byte) : Option Req := Req.list.find? fun r => r.code == b

/-- The image length of the item a WRITE ITEM names (R163); none where no such item exists. -/
def itemLength (block item : Byte) : Option Nat :=
  match block.toNat with
  | 1 => if item = 0xFF then some 4 else if item.toNat < 80 then some 8 else none
  | 2 => if item = 0 then some 16 else none
  | 3 => if item = 0xFF then some 4 else if item.toNat < 16 then some 12 else none
  | 4 => if item = 0 then some 8 else none
  | 5 => if item = 0 then some 8 else none
  | _ => none

/-- The block a WRITE ITEM names is one of the five (R163). -/
def blockExists (block : Byte) : Bool := decide (1 ≤ block.toNat ∧ block.toNat ≤ 5)

/-! ## Payloads -/

/-- The item image of a WRITE ITEM read as the item it names (R163). A block or item that does not exist is `absent`,
whatever the length (R161); an existing item with another length is no payload. -/
def decodeItem (block item : Byte) (img : List Byte) : Option ItemWrite :=
  if (itemLength block item).isNone then some (.absent block item)
  else
    match block.toNat, img with
    | 1, [n, _, t0, t1] => if item = 0xFF then some (.calHeader n (le16 t0 t1)) else none
    | 1, [g0, g1, g2, g3, f0, f1, f2, f3] =>
      if item = 0xFF then none else some (.calInterval item (le32 g0 g1 g2 g3) (le32 f0 f1 f2 f3))
    | 2, [x0, x1, y0, y1, k0, k1, k2, k3, l0, l1, t0, t1, t2, t3, s, _] =>
      some (.sensor (le16 x0 x1) (le16 y0 y1) (le32 k0 k1 k2 k3) (le16 l0 l1) (le32 t0 t1 t2 t3) s)
    | 3, [m, e, d0, d1] => if item = 0xFF then some (.tideHeader m e (le16 d0 d1)) else none
    | 3, [s, _, a0, a1, f0, f1, f2, f3, p0, p1, p2, p3] =>
      if item = 0xFF then none
      else some (.constituent item s (le16 a0 a1) (le32 f0 f1 f2 f3) (le32 p0 p1 p2 p3))
    | 4, [q0, q1, a, e, g, _, m0, m1] => some (.settle (le16 q0 q1) a e g (le16 m0 m1))
    | 5, [m0, m1, m2, m3, l0, l1, l2, l3] => some (.loop (le32 m0 m1 m2 m3) (le32 l0 l1 l2 l3))
    | _, _ => none

/-- A request's payload read by R161 and R163; none where the payload has another length than the request's. A WRITE ITEM whose one
byte names a block that does not exist is a request all the same (R161). DEDUCED (log 27): one that names no block, or an
existing block and no item, has no item's length. -/
def decodePayload (p : Port) (r : Req) (pl : List Byte) : Option Instr :=
  match r with
  | .sample =>
    match pl with
    | [q, r0, r1, r2, r3, x0, x1, y0, y1, d0, d1, f] =>
      some (.sample p q (le32 r0 r1 r2 r3) (le16 x0 x1) (le16 y0 y1) (le16 d0 d1) f)
    | _ => none
  | .readLive => match pl with | [] => some (.readLive p) | _ => none
  | .status => match pl with | [] => some (.status p) | _ => none
  | .readClock => match pl with | [] => some (.readClock p) | _ => none
  | .setClock =>
    match pl with
    | [v0, v1, v2, v3] => some (.setClock p (le32 v0 v1 v2 v3))
    | _ => none
  | .readEvents => match pl with | [] => some (.readEvents p) | _ => none
  | .setMask =>
    match pl with
    | [w0, w1] => some (.setMask p (le16 w0 w1))
    | _ => none
  | .readMask => match pl with | [] => some (.readMask p) | _ => none
  | .readItem =>
    match pl with
    | [b, i] => some (.readItem p b i)
    | _ => none
  | .writeItem =>
    match pl with
    | [b] => if blockExists b then none else some (.writeItem p (.absentBlock b))
    | b :: i :: img => (decodeItem b i img).map (.writeItem p)
    | _ => none
  | .commit => match pl with | [] => some (.commit p) | _ => none
  | .discard => match pl with | [] => some (.discard p) | _ => none
  | .readDigest => match pl with | [] => some (.readDigest p) | _ => none
  | .openSurvey =>
    match pl with
    | [n0, n1, i0, i1, i2, i3, s] => some (.openSurvey p (le16 n0 n1) (le32 i0 i1 i2 i3) s)
    | _ => none
  | .closeSurvey => match pl with | [] => some (.closeSurvey p) | _ => none
  | .resume => match pl with | [] => some (.resume p) | _ => none
  | .setLine =>
    match pl with
    | [i0, i1, i2, i3, s] => some (.setLine p (le32 i0 i1 i2 i3) s)
    | _ => none
  | .setPosition =>
    match pl with
    | [k, a0, a1, a2, a3, o0, o1, o2, o3] => some (.setPosition p k (le32 a0 a1 a2 a3) (le32 o0 o1 o2 o3))
    | _ => none
  | .occupy =>
    match pl with
    | [k, i0, i1, i2, i3, a0, a1, a2, a3, o0, o1, o2, o3] =>
      some (.occupy p k (le32 i0 i1 i2 i3) (le32 a0 a1 a2 a3) (le32 o0 o1 o2 o3))
    | _ => none
  | .occupyNext => match pl with | [] => some (.occupyNext p) | _ => none
  | .endOccupation => match pl with | [] => some (.endOccupation p) | _ => none
  | .abandon => match pl with | [] => some (.abandon p) | _ => none
  | .readLogFrom =>
    match pl with
    | [q0, q1, q2, q3] => some (.readLogFrom p (le32 q0 q1 q2 q3))
    | _ => none
  | .readLogNext => match pl with | [] => some (.readLogNext p) | _ => none
  | .purge =>
    match pl with
    | [q0, q1, q2, q3] => some (.purge p (le32 q0 q1 q2 q3))
    | _ => none
  | .loadBase =>
    match pl with
    | [i0, i1, i2, i3, v0, v1, v2, v3] => some (.loadBase p (le32 i0 i1 i2 i3) (le32 v0 v1 v2 v3))
    | _ => none
  | .dropBase =>
    match pl with
    | [i0, i1, i2, i3] => some (.dropBase p (le32 i0 i1 i2 i3))
    | _ => none
  | .readBases =>
    match pl with
    | [i0, i1, i2, i3] => some (.readBases p (le32 i0 i1 i2 i3))
    | _ => none
  | .softReset => match pl with | [] => some (.softReset p) | _ => none

/-! ## Frames judged at a port -/

/-- The two answers a port gives to a frame it rejects (R158, R159). -/
inductive FrameFault where
  | frame
  | unknown
  deriving DecidableEq, Repr, Inhabited

/-- What a port makes of the bytes it received. -/
inductive Verdict where
  /-- No request (R158). -/
  | empty
  /-- Answered FRAME or UNKNOWN and discarded. -/
  | reject (f : FrameFault)
  /-- Taken as this request. -/
  | good (i : Instr)
  deriving DecidableEq, Repr, Inhabited

/-- Conditions 4 and 5 of R158, the same on both ports: the code, then the payload length. -/
def judgeRequest (p : Port) (code : Byte) (pl : List Byte) : Verdict :=
  match Req.ofCode code with
  | none => .reject .unknown
  | some r =>
    match decodePayload p r pl with
    | none => .reject .frame
    | some i => .good i

/-- The bytes received in a meter-port transaction, examined at the rise of CSn (R158). -/
def judgeMeter : List Byte → Verdict
  | [] => .empty
  | c :: rest =>
    if c = 0 then .empty
    else
      match rest with
      | [] => .reject .frame
      | l :: body =>
        if 80 < l.toNat then .reject .frame
        else if body.length < l.toNat + 1 then .reject .frame
        else if byteSum (c :: l :: body.take (l.toNat + 1)) ≠ 0 then .reject .frame
        else judgeRequest .meter c (body.take l.toNat)

/-- A complete survey-port frame: its length byte, its L bytes of type and payload, its check byte (R159). -/
def judgeSurvey (frame : List Byte) : Verdict :=
  if byteSum frame ≠ 0 then .reject .frame
  else
    match frame with
    | _ :: t :: rest => judgeRequest .survey t (rest.dropLast)
    | _ => .reject .frame

/-! ## Requests written as frames -/

/-- The request a command is, with its port; none for the commands that are no request. -/
def Instr.request : Instr → Option (Port × Req)
  | .sample p .. => some (p, .sample)
  | .readLive p => some (p, .readLive)
  | .status p => some (p, .status)
  | .readClock p => some (p, .readClock)
  | .setClock p _ => some (p, .setClock)
  | .readEvents p => some (p, .readEvents)
  | .setMask p _ => some (p, .setMask)
  | .readMask p => some (p, .readMask)
  | .readItem p .. => some (p, .readItem)
  | .writeItem p _ => some (p, .writeItem)
  | .commit p => some (p, .commit)
  | .discard p => some (p, .discard)
  | .readDigest p => some (p, .readDigest)
  | .openSurvey p .. => some (p, .openSurvey)
  | .closeSurvey p => some (p, .closeSurvey)
  | .resume p => some (p, .resume)
  | .setLine p .. => some (p, .setLine)
  | .setPosition p .. => some (p, .setPosition)
  | .occupy p .. => some (p, .occupy)
  | .occupyNext p => some (p, .occupyNext)
  | .endOccupation p => some (p, .endOccupation)
  | .abandon p => some (p, .abandon)
  | .readLogFrom p _ => some (p, .readLogFrom)
  | .readLogNext p => some (p, .readLogNext)
  | .purge p _ => some (p, .purge)
  | .loadBase p .. => some (p, .loadBase)
  | .dropBase p _ => some (p, .dropBase)
  | .readBases p _ => some (p, .readBases)
  | .softReset p => some (p, .softReset)
  | .meterFrameReject _ => none
  | .meterFrameDiscard => none
  | .csnFall _ => none
  | .surveyFrameReject _ => none
  | .surveyFrameOverrun _ => none
  | .interByteTimeout => none
  | .responseSent => none
  | .secondBoundary => none
  | .gapExpiry => none
  | .liveReadingStale => none
  | .closureStep => none
  | .blockWriteComplete => none
  | .digestComplete => none
  | .vddRise => none
  | .vddFall _ => none
  | .vbakFail => none
  | .resetnAssert => none
  | .resetnRelease => none
  | .nvImageLoss _ => none
  | .startUpStage _ => none
  | .operationAnswer _ => none

/-- The bytes of a WRITE ITEM payload: block, item and item image, reserved bytes zero (R163); the block alone where no item is
named. -/
def encodeItem : ItemWrite → List Byte
  | .calHeader n tol => [1, 0xFF, n, 0] ++ bytes16 tol
  | .calInterval i g f => [1, i] ++ bytes32 g ++ bytes32 f
  | .sensor ox oy kt lt tc shift =>
    [2, 0] ++ bytes16 ox ++ bytes16 oy ++ bytes32 kt ++ bytes16 lt ++ bytes32 tc ++ [shift, 0]
  | .tideHeader m enable delta => [3, 0xFF, m, enable] ++ bytes16 delta
  | .constituent k species a f p => [3, k, species, 0] ++ bytes16 a ++ bytes32 f ++ bytes32 p
  | .settle q a e gapLimit minCount => [4, 0] ++ bytes16 q ++ [a, e, gapLimit, 0] ++ bytes16 minCount
  | .loop limit ll => [5, 0] ++ bytes32 limit ++ bytes32 ll
  | .absent block item => [block, item]
  | .absentBlock block => [block]

/-- The payload bytes of a request (R161, R163); empty for a command that is no request. -/
def encodePayload : Instr → List Byte
  | .sample _ q r tx ty dT f => [q] ++ bytes32 r ++ bytes16 tx ++ bytes16 ty ++ bytes16 dT ++ [f]
  | .setClock _ v => bytes32 v
  | .setMask _ w => bytes16 w
  | .readItem _ b i => [b, i]
  | .writeItem _ w => encodeItem w
  | .openSurvey _ n id step => bytes16 n ++ bytes32 id ++ [step]
  | .setLine _ id step => bytes32 id ++ [step]
  | .setPosition _ k lat lon => [k] ++ bytes32 lat ++ bytes32 lon
  | .occupy _ k id lat lon => [k] ++ bytes32 id ++ bytes32 lat ++ bytes32 lon
  | .readLogFrom _ q => bytes32 q
  | .purge _ q => bytes32 q
  | .loadBase _ id v => bytes32 id ++ bytes32 v
  | .dropBase _ id => bytes32 id
  | .readBases _ id => bytes32 id
  | _ => []

/-- A request as the frame its port carries (R158; R159 without the sync byte): none for a command that is no request. -/
def encodeFrame (i : Instr) : Option (List Byte) :=
  match i.request with
  | none => none
  | some (.meter, r) =>
    let body := [r.code, BitVec.ofNat 8 (encodePayload i).length] ++ encodePayload i
    some (body ++ [checkByte body])
  | some (.survey, r) =>
    let body := [BitVec.ofNat 8 ((encodePayload i).length + 1), r.code] ++ encodePayload i
    some (body ++ [checkByte body])

/-! ## The table's words -/

/-- The command a word spells by the bits of spec/opcode_table.json: none, because no row of the table gives bits. -/
def decodeTableWord (_nbits _w : Nat) : Option Instr := none

end Sys2Proof
end

