-- ==== Sys2Proof/Machine/Flags.lean ====
section
/-! DEFINITION. Every flag computation of the manual: the events and event words (R163, R164), the sample flags (R31, R32),
the quality flags (R70, R94), the quiet window (R67, R68) and the reduction flags (R95, R117, R125). -/

namespace Sys2Proof.Machine

/-! ## Events -/

/-- The thirteen events (R163). -/
inductive Event where
  | restarted | settled | settleLost | gap | occEnded | occAbandoned | tieFormed | loopClosed | commitDone
  | digestReady | logNearFull | clockSet | surveyChanged
  deriving DecidableEq, Repr, Inhabited

/-- The bit of an event in the event word (R163). -/
def Event.index : Event → Nat
  | .restarted => 0
  | .settled => 1
  | .settleLost => 2
  | .gap => 3
  | .occEnded => 4
  | .occAbandoned => 5
  | .tieFormed => 6
  | .loopClosed => 7
  | .commitDone => 8
  | .digestReady => 9
  | .logNearFull => 10
  | .clockSet => 11
  | .surveyChanged => 12

/-- The event word that holds one event. -/
def Event.word (e : Event) : U16 := 1#16 <<< e.index

/-- An event entered into a set: it is pending there once (R164). -/
def addEvent (e : Event) (w : U16) : U16 := w ||| e.word

/-! ## Sample flags -/

/-- The meter flags hold the "sensor not locked" indication: bit 0; bits 1 to 7 are ignored (R31, R163). -/
def notLocked (flags : Byte) : Bool := flags.getLsbD 0

/-- A residual exceeds the tilt limit on either axis (R26). -/
def tiltExceeds (rx ry : Int) (limit : Nat) : Bool := decide (limit < rx.natAbs) || decide (limit < ry.natAbs)

/-- A sample that carries a rejecting flag (R32). -/
def SampleFlags.rejected (f : SampleFlags) : Bool := f.range || f.tilt || f.meter

/-- No flag. -/
def SampleFlags.clear : SampleFlags :=
  { range := false, tilt := false, meter := false, tideClamp := false, tideOff := false, noClock := false, noPos := false }

/-! ## Quality flags -/

/-- All clear but CARRIED as given (R65). -/
def Quality.created (carried : Bool) : Quality :=
  { carried := carried, loss := false, rangeSeen := false, tiltSeen := false, clampSeen := false, tideAbsent := false,
    short := false, saturated := false, wide := false, tieRejected := false }

/-- The record's flags after a sample taken in SETTLED (R70): METER marks none. -/
def Quality.seen (q : Quality) (f : SampleFlags) : Quality :=
  { q with
    rangeSeen := q.rangeSeen || f.range
    tiltSeen := q.tiltSeen || f.tilt
    clampSeen := q.clampSeen || f.tideClamp
    tideAbsent := q.tideAbsent || f.tideOff || f.noClock || f.noPos }

/-- The flags set at END (R82 steps 2 and 3): SATURATED and WIDE only with a result. -/
def Quality.ended (q : Quality) (sums : Sums) (minCount : Nat) : Quality :=
  { q with
    short := q.short || decide (sums.n < minCount)
    saturated := q.saturated || (decide (1 ≤ sums.n) && sums.saturated)
    wide := q.wide || (decide (1 ≤ sums.n) && sums.wide) }

/-! ## The quiet window -/

/-- The quiet test (R67). -/
def isQuiet (rejected : Bool) (ref : Option Int) (v : Int) (q : Nat) : Bool :=
  match ref with
  | some x => !rejected && decide ((v - x).natAbs ≤ q)
  | none => false

/-- A mark appended as the newest, the oldest dropped (R68). -/
def pushMark (window : List Bool) (notQuiet : Bool) : List Bool := window.drop 1 ++ [notQuiet]

/-- The window's not-quiet count (R68). -/
def notQuietCount (window : List Bool) : Nat := window.count true

/-! ## Reduction flags -/

/-- The misclosure exceeds the misclosure limit (R117, R125). -/
def misclosed (a b : Tie) (limit : Nat) : Bool := decide (limit < (b.off - a.off).natAbs)

/-- The span exceeds LL (R117, R125). -/
def isLong (a b : Tie) (ll : Nat) : Bool := decide ((ll : Int) < (b.time : Int) - (a.time : Int))

/-- The closing tie's mean time is not later than the opening tie's (R124, R125). -/
def isZeroSpan (a b : Tie) : Bool := decide (b.time ≤ a.time)

/-- A reduction part with no reduction (R95). -/
def Reduction.none : Reduction :=
  { status := .none, figures := Option.none, predicted := false, misclosed := false, long := false, zeroSpan := false }

end Sys2Proof.Machine
end

