-- ==== Sys2Proof/Machine/Layouts.lean ====
section
/-! DEFINITION. Every image and payload as bytes (R161 to R163) and the response frames of both ports (R158, R160). -/

namespace Sys2Proof.Machine

/-! ## Fields -/

/-- A field of `k` bytes, least significant byte first (R163). -/
def leNat : Nat → Nat → List Byte
  | 0, _ => []
  | k + 1, v => BitVec.ofNat 8 v :: leNat k (v / 256)

/-- A signed field of `k` bytes, two's complement (R163). -/
def leInt (k : Nat) (v : Int) : List Byte := leNat k (modNat v (256 ^ k))

/-- An absent field reads as zero (R163). -/
def orZero (v : Option Nat) : Nat := v.getD 0

/-- One bit at a place. -/
def bitAt (place : Nat) (b : Bool) : Nat := if b then 2 ^ place else 0

/-! ## Codes -/

/-- The status codes (R162). -/
def Status.code : Status → Byte
  | .ok => 0x01
  | .frame => 0x02
  | .unknown => 0x03
  | .denied => 0x04
  | .state => 0x05
  | .range => 0x06
  | .busy => 0x07
  | .active => 0x08
  | .idle => 0x09
  | .noBase => 0x0A
  | .noId => 0x0B
  | .noPosition => 0x0C
  | .logFull => 0x0D
  | .tableFull => 0x0E
  | .queueFull => 0x0F
  | .clockStep => 0x10
  | .inUse => 0x11
  | .invalid => 0x12
  | .noCursor => 0x13

/-- The survey state's code in STATUS (R163). -/
def SurveyState.code : SurveyState → Nat
  | .unset => 0
  | .ready => 1
  | .survey => 2
  | .held => 3

/-- The store state's code in STATUS (R163). -/
def StoreState.code : StoreState → Nat
  | .clean => 0
  | .dirty => 1
  | .committing => 2

/-- The restart cause's code in STATUS (R163). -/
def Cause.code : Cause → Nat
  | .powerLost => 0
  | .powerRetained => 1
  | .resetLine => 2
  | .soft => 3

/-- The occupation state's code in READ LIVE (R163). -/
def OccName.code : OccName → Nat
  | .none => 0
  | .settling => 1
  | .settled => 2

/-- The kind's code (R161, R163). -/
def Kind.code : Kind → Nat
  | .station => 0
  | .base => 1

/-- The position source's code (R161, R163). -/
def Source.code : Source → Nat
  | .given => 0
  | .carried => 1

/-- The origin's code in a record image (R163). -/
def originCode : Port → Nat
  | .meter => 0
  | .survey => 1

/-- The record state's code (R163). -/
def RecState.code : RecState → Nat
  | .active => 0
  | .ended => 1
  | .abandoned => 2

/-- The end cause's code (R163). -/
def EndCause.code : EndCause → Nat
  | .none => 0
  | .meterEnd => 1
  | .surveyEnd => 2
  | .meterAbandon => 3
  | .surveyAbandon => 4
  | .reset => 5
  | .power => 6

/-- The reduction status's code (R163). -/
def RedStatus.code : RedStatus → Nat
  | .none => 0
  | .untied => 1
  | .provisional => 2
  | .final => 3
  | .unclosed => 4

/-- The tie role's code (R163). -/
def TieRole.code : TieRole → Nat
  | .none => 0
  | .first => 1
  | .closing => 2

/-- The PURGE stop reason's code (R161). -/
def StopReason.code : StopReason → Nat
  | .limit => 0
  | .active => 1
  | .loop => 2

/-! ## Images -/

/-- The sample flags byte of READ LIVE (R163). -/
def SampleFlags.byte (f : SampleFlags) : Nat :=
  bitAt 0 f.range + bitAt 1 f.tilt + bitAt 2 f.meter + bitAt 3 f.tideClamp + bitAt 4 f.tideOff + bitAt 5 f.noClock +
    bitAt 6 f.noPos

/-- The quality flags of a record image (R163). -/
def Quality.word (q : Quality) : Nat :=
  bitAt 0 q.carried + bitAt 1 q.loss + bitAt 2 q.rangeSeen + bitAt 3 q.tiltSeen + bitAt 4 q.clampSeen +
    bitAt 5 q.tideAbsent + bitAt 6 q.short + bitAt 7 q.saturated + bitAt 8 q.wide + bitAt 9 q.tieRejected

/-- The result part of a record image, bytes 36 to 51; an absent result reads as zero (R163). -/
def Result.bytes : Option Result → List Byte
  | some r =>
    leNat 2 r.n ++ leNat 2 r.rejected ++ leInt 4 r.mean ++ leNat 4 r.time ++ leNat 2 r.scatter ++ leNat 1 r.gaps ++
      leNat 1 r.losses
  | none => leNat 16 0

/-- The occupation record image, 64 bytes (R163). -/
def Record.image (r : Record) : List Byte :=
  leNat 4 r.seq ++ leNat 2 r.survey ++
  leNat 1 (r.kind.code + 2 * originCode r.origin + 4 * r.source.code + 16 * r.state.code) ++
  leNat 1 r.cause.code ++
  leNat 4 r.station ++ leInt 4 r.pos.lat ++ leInt 4 r.pos.lon ++
  leNat 4 r.start ++ leNat 4 (orZero r.stop) ++
  leNat 4 r.digest.toNat ++ leNat 4 r.loopNo ++
  Result.bytes r.result ++
  leNat 2 r.quality.word ++
  leNat 1 (r.red.status.code + 16 * r.role.code) ++
  leNat 1 (bitAt 0 r.red.predicted + bitAt 1 r.red.misclosed + bitAt 2 r.red.long + bitAt 3 r.red.zeroSpan) ++
  leInt 4 ((r.red.figures.map (·.drift)).getD 0) ++ leInt 4 ((r.red.figures.map (·.reduced)).getD 0)

/-- The image of one constants item, reserved bytes zero (R163). -/
def ItemValue.image : ItemValue → List Byte
  | .calHeader n tol => leNat 1 n ++ [0] ++ leNat 2 tol
  | .calInterval v => leInt 4 v.g ++ leNat 4 v.f
  | .sensor v =>
    leInt 2 v.ox ++ leInt 2 v.oy ++ leNat 4 v.kt ++ leNat 2 v.lt ++ leInt 4 v.tc ++ leNat 1 v.shift ++ [0]
  | .tideHeader m enabled delta => leNat 1 m ++ leNat 1 (bitAt 0 enabled) ++ leNat 2 delta
  | .constituent v => leNat 1 v.species ++ [0] ++ leInt 2 v.a ++ leNat 4 v.f ++ leNat 4 v.p
  | .settle v => leNat 2 v.q ++ leNat 1 v.a ++ leNat 1 v.e ++ leNat 1 v.gapLimit ++ [0] ++ leNat 2 v.minCount
  | .loop v => leNat 4 v.limit ++ leNat 4 v.ll

/-- The image of the CAL block: header, then the intervals (R155). -/
def CalBlock.image (c : CalBlock) : List Byte :=
  (ItemValue.calHeader c.n c.tol).image ++ c.intervals.flatMap fun v => (ItemValue.calInterval v).image

/-- The image of the TIDE block: header, then the constituents (R155). -/
def TideBlock.image (t : TideBlock) : List Byte :=
  (ItemValue.tideHeader t.m t.enabled t.delta).image ++ t.parts.flatMap fun v => (ItemValue.constituent v).image

/-- The five block images in block order: the input of the digest (R155). -/
def Constants.image (c : Constants) : List Byte :=
  c.cal.image ++ (ItemValue.sensor c.sensor).image ++ c.tide.image ++ (ItemValue.settle c.settle).image ++
    (ItemValue.loop c.loop).image

/-- The STATUS image, 28 bytes (R163). -/
def StatusReport.image (r : StatusReport) : List Byte :=
  leNat 1 r.survey.code ++ leNat 1 r.store.code ++ leNat 1 (bitAt 0 r.computing) ++
  leNat 1 (bitAt 0 r.defaulted.cal + bitAt 1 r.defaulted.sensor + bitAt 2 r.defaulted.tide + bitAt 3 r.defaulted.settle +
    bitAt 4 r.defaulted.loop) ++
  leNat 1 r.cause.code ++ leNat 1 (bitAt 0 r.startUp) ++ leNat 2 r.number ++ leNat 2 r.count ++ leNat 4 r.oldest ++
  leNat 4 r.newest ++ leNat 1 r.depth ++ leInt 1 r.step ++ leNat 4 r.nextId ++ leNat 2 r.overruns ++ leNat 2 r.version

/-- The sample fields of READ LIVE: bytes 2 and 3, 4 to 12, and 16 to 47; all zero where the record is empty (R40, R163). -/
def LiveReport.image (r : LiveReport) : List Byte :=
  let head := fun (a b : List Byte) =>
    leNat 1 (bitAt 0 r.live.isNone + bitAt 1 r.stale) ++ leNat 1 r.state.code ++ a ++ leNat 1 r.run ++
      leNat 1 r.notQuiet ++ [0] ++ b
  (match r.live with
    | some l =>
      head (leNat 1 l.seq ++ leNat 1 l.flags.byte ++ leNat 4 l.time ++ leNat 4 l.raw ++ leNat 1 l.interval)
        (leNat 4 l.offset ++ leInt 4 l.rx ++ leInt 4 l.ry ++ leInt 2 l.dT ++ leInt 2 l.tidec ++ leInt 4 l.cal ++
          leInt 4 l.tiltc ++ leInt 4 l.tempc ++ leInt 4 l.v)
    | none => head (leNat 11 0) (leNat 32 0)) ++
  leNat 2 r.lost ++ leNat 2 r.n ++ leInt 4 (r.mean.getD 0)

/-- The payload bytes of a response (R161, R162). -/
def Payload.bytes : Payload → List Byte
  | .empty => []
  | .live r => r.image
  | .status r => r.image
  | .clock value isSet => leNat 4 value ++ leNat 1 (bitAt 0 isSet)
  | .word w => leNat 2 w.toNat
  | .item b i d f v => [b, i] ++ leNat 1 (bitAt 0 d + bitAt 1 f) ++ v.image
  | .blocks n => leNat 1 n
  | .invalid b => [blockNumber b]
  | .digest v computing => leNat 4 v.toNat ++ leNat 1 (bitAt 0 computing)
  | .created seq station kind source => leNat 4 seq ++ leNat 4 station ++ leNat 1 kind.code ++ leNat 1 source.code
  | .completed seq => leNat 4 seq
  | .records rs atEnd skipped =>
    leNat 1 rs.length ++ leNat 1 (bitAt 0 atEnd + bitAt 1 skipped) ++ rs.flatMap Record.image
  | .purged removed oldest reason => leNat 2 removed ++ leNat 4 oldest ++ leNat 1 reason.code
  | .baseCount n => leNat 1 n
  | .bases count entries atEnd =>
    leNat 1 count ++ leNat 1 entries.length ++ leNat 1 (bitAt 0 atEnd) ++
      entries.flatMap fun e => leNat 4 e.1.id ++ leInt 4 e.1.value ++ leNat 1 (bitAt 0 e.2)

/-! ## Response frames -/

/-- A meter-port response frame: status, length, payload, check byte (R158). -/
def meterFrame (r : Response) : List Byte :=
  let body := [r.status.code, BitVec.ofNat 8 r.payload.bytes.length] ++ r.payload.bytes
  body ++ [checkByte body]

/-- A survey-port response frame: sync byte, length, type, status, payload, check byte (R160). -/
def surveyFrame (code : Byte) (r : Response) : List Byte :=
  let body := [BitVec.ofNat 8 (r.payload.bytes.length + 2), code, r.status.code] ++ r.payload.bytes
  [0xA5] ++ body ++ [checkByte body]

end Sys2Proof.Machine
end

