-- ==== Sys2Proof/Machine/Ops.lean ====
section
/-! DEFINITION. The operations the meanings share: named updates of the state, events and attention, the survey state's test,
records of the log, the second boundary's parts, taking a request on a port, and the beginning of a restart. -/

namespace Sys2Proof.Machine

/-! ## Named updates -/

/-- The state with another clock. -/
def State.setClock (s : State) (c : Clock) : State := { s with clock := c }
/-- The state with other survey controller items. -/
def State.setSurvey (s : State) (c : SurveyCtl) : State := { s with survey := c }
/-- The state with another base table. -/
def State.setBases (s : State) (b : List BaseEntry) : State := { s with bases := b }
/-- The state with another loop context. -/
def State.setLoop (s : State) (l : LoopCtx) : State := { s with loop := l }
/-- The state with another closure queue. -/
def State.setQueue (s : State) (q : List ClosureEntry) : State := { s with queue := q }
/-- The state with another log. -/
def State.setLog (s : State) (l : Log) : State := { s with log := l }
/-- The state with another meter port. -/
def State.setMeter (s : State) (m : MeterPort) : State := { s with meter := m }
/-- The state with another survey port. -/
def State.setUart (s : State) (u : SurveyPort) : State := { s with uart := u }
/-- The state with another correction chain. -/
def State.setChain (s : State) (c : Chain) : State := { s with chain := c }
/-- The state with another latitude-factor cache. -/
def State.setCache (s : State) (c : Option CacheEntry) : State := { s with cache := c }
/-- The state with another occupation controller. -/
def State.setOcc (s : State) (o : Occupation) : State := { s with occ := o }
/-- The state with another position p of the closure in flight. -/
def State.setClosurePos (s : State) (p : Option Nat) : State := { s with closurePos := p }
/-- The state with another pending position. -/
def State.setPendingPos (s : State) (p : Option Position) : State := { s with pendingPos := p }
/-- The state with another constants store. -/
def State.setStore (s : State) (t : Store) : State := { s with store := t }
/-- The state with other non-volatile images. -/
def State.setNv (s : State) (i : Images) : State := { s with nv := i }
/-- The state with other supplies. -/
def State.setSupply (s : State) (p : Supply) : State := { s with supply := p }
/-- The state with another stage of start-up. -/
def State.setStartUp (s : State) (g : Option Stage) : State := { s with startUp := g }
/-- The state with other output lines. -/
def State.setPins (s : State) (p : Pins) : State := { s with pins := p }
/-- The state with another queue of commands. -/
def State.setPending (s : State) (q : List Instr) : State := { s with pending := q }

/-! ## Supplies and start-up -/

/-- The part receives frames: VDD is present and RESETn is not held low (R138). -/
def State.receiving (s : State) : Bool := s.supply.vdd && !s.supply.resetLow

/-- The main domain runs: VDD is present and no restart waits for RESETn (R138). -/
def State.powered (s : State) : Bool := s.supply.vdd && !s.supply.restartDue

/-- The main domain holds its own values: it runs, and no restart has still to take stage 2 (R139, R143). -/
def State.mainLive (s : State) : Bool := s.powered && s.startUp != some .mainDomain

/-- The constants store holds its own values: stage 3 of a restart in progress has been taken too (R139, R156). -/
def State.storeLive (s : State) : Bool := s.mainLive && s.startUp != some .constants

/-- Start-up is in progress (R139). -/
def State.inStartUp (s : State) : Bool := s.startUp.isSome

/-- The retained domain is supplied (R137). -/
def State.retainedSupplied (s : State) : Bool := s.supply.vdd || s.supply.vbak

/-! ## Events and attention -/

/-- An event raised: it enters the event sets of both ports (R164). -/
def State.raise (s : State) (e : Event) : State :=
  (s.setMeter { s.meter with events := addEvent e s.meter.events }).setUart
    { s.uart with events := addEvent e s.uart.events }

/-- A port's event set (R164). -/
def State.events (s : State) : Port → U16
  | .meter => s.meter.events
  | .survey => s.uart.events

/-- A port's event mask (R165). -/
def State.mask (s : State) : Port → U16
  | .meter => s.meter.mask
  | .survey => s.uart.mask

/-- A port's read cursor (R98). -/
def State.cursor (s : State) : Port → Option Nat
  | .meter => s.meter.cursor
  | .survey => s.uart.cursor

/-- A port's event set replaced. -/
def State.setEvents (s : State) (p : Port) (w : U16) : State :=
  match p with
  | .meter => s.setMeter { s.meter with events := w }
  | .survey => s.setUart { s.uart with events := w }

/-- A port's event mask replaced. -/
def State.setMask (s : State) (p : Port) (w : U16) : State :=
  match p with
  | .meter => s.setMeter { s.meter with mask := w }
  | .survey => s.setUart { s.uart with mask := w }

/-- A port's read cursor replaced. -/
def State.setCursor (s : State) (p : Port) (c : Option Nat) : State :=
  match p with
  | .meter => s.setMeter { s.meter with cursor := c }
  | .survey => s.setUart { s.uart with cursor := c }

/-- A port's attention line (R167): high while its set and mask share an event; low while RESETn is held low or VDD is
absent. DEDUCED (log 11): after VDD or RESETn it stays low until stage 2 ("from stage 2 of a restart each line follows"). -/
def State.attention (s : State) (p : Port) : Bool :=
  s.receiving && !(s.startUp == some .mainDomain && s.survey.lastCause != .soft) && (s.events p &&& s.mask p) != 0

/-! ## The survey state and the log -/

/-- No block is DEFAULTED (R131). -/
def State.noneDefaulted (s : State) : Bool := !s.store.defaulted.any

/-- A survey is open: SURVEY or HELD. -/
def State.inSurvey (s : State) : Bool := s.survey.state == .survey || s.survey.state == .held

/-- The test for leaving UNSET (R131). -/
def State.leaveUnset (s : State) : State :=
  if s.survey.state = .unset ∧ s.clock.isSet = true ∧ s.noneDefaulted = true then
    (s.setSurvey { s.survey with state := .ready }).raise .surveyChanged
  else s

/-- The store state (R146). -/
def Store.state (t : Store) : StoreState :=
  if t.commit.isSome then .committing else if t.dirty.any then .dirty else .clean

/-- The occupation state's name (R60). -/
def OccState.name : OccState → OccName
  | .none => .none
  | .settling _ => .settling
  | .settled _ => .settled

/-- The active record's sequence number (R60). -/
def OccState.record : OccState → Option Nat
  | .none => Option.none
  | .settling q => some q
  | .settled q => some q

/-- An occupation is active (R35). -/
def Occupation.isActive (o : Occupation) : Bool := o.state.record.isSome

/-- The record with a sequence number, if the log holds it (R87). -/
def Log.find (l : Log) (q : Nat) : Option Record := l.records.find? fun r => r.seq == q

/-- Every record with a sequence number changed whole (R90). -/
def Log.modify (l : Log) (q : Nat) (f : Record → Record) : Log :=
  { l with records := l.records.map fun r => if r.seq = q then f r else r }

/-- The newest record (R87). -/
def Log.newest (l : Log) : Option Record := l.records.getLast?

/-- The low mark (R87): the oldest record's sequence number, or the counter's value. -/
def Log.lowMark (l : Log) : Nat :=
  match l.records with
  | r :: _ => r.seq
  | [] => l.counter

/-- The active record, read from the log (R60). -/
def State.activeRecord (s : State) : Option Record :=
  match s.occ.state.record with
  | some q => s.log.find q
  | none => none

/-- A change of the active record's quality flags. -/
def State.markActive (s : State) (f : Quality → Quality) : State :=
  match s.occ.state.record with
  | some q => s.setLog (s.log.modify q fun r => { r with quality := f r.quality })
  | none => s

/-- The occupation controller's NONE values (R60): the staleness count is not among them. -/
def Occupation.idle (o : Occupation) : Occupation := { Occupation.restarted with staleness := o.staleness }

/-! ## The second boundary -/

/-- A gap expiry, in one operation (R74). -/
def State.gapExpires (s : State) (q : Nat) : State :=
  let s1 := s.setOcc { s.occ with
    state := .settling q
    run := 0
    ref := none
    window := quietWindow
    counts := { s.occ.counts with gaps := satAdd 255 s.occ.counts.gaps 1 } }
  (s1.setChain { s1.chain with stale := true }).raise .gap

/-- The gap counter at a boundary (R73), and the expiry where it reaches the limit (R74). DESIGN CHOICE (log 22): at a gap limit
of 1, R75 has no gap expire at a boundary that follows a sample, and R73 has one; the model follows R73. -/
def State.countGap (s : State) : State :=
  match s.occ.state.record with
  | none => s
  | some q =>
    if s.occ.gap < s.store.work.settle.gapLimit then
      let s1 := s.setOcc { s.occ with gap := s.occ.gap + 1 }
      if s.occ.gap + 1 = s.store.work.settle.gapLimit then s1.gapExpires q else s1
    else s

/-- The staleness count at a boundary (R38). -/
def State.countStale (s : State) : State :=
  let n := satAdd 255 s.occ.staleness 1
  let s1 := s.setOcc { s.occ with staleness := n }
  if s1.chain.stale = false ∧ s.store.work.settle.gapLimit ≤ n then s1.setChain { s1.chain with stale := true } else s1

/-- A second of the clock completes: the divider returns to its start and the value increases by one, up to its maximum
(R7, R9). -/
def Clock.second (c : Clock) : Clock :=
  { c with value := if c.value < 4294967295 then c.value + 1 else c.value, divider := 0 }

/-- The clock counts: it is set and its domain is supplied (R7). -/
def State.clockRuns (s : State) : Bool := s.clock.isSet && s.retainedSupplied

/-- A second boundary (R8): the clock, then the occupation controller's gap counter and staleness count, which a restart that
has not yet reset them does not count (R14). DESIGN CHOICE (log 28): R75 has a sample and a boundary below the limit differ by order
in the gap counter alone; the model follows R13 and R38, by which the sample's stamp, what is computed from it and the staleness count
differ too. -/
def State.boundary (s : State) : State :=
  let s1 := s.setClock s.clock.second
  if s1.mainLive then s1.countGap.countStale else s1

/-! ## Taking a request on a port -/

/-- What an operation gives: the state after it and its answer (SOFT RESET gives none, R138). -/
abbrev Served := State × Option Response

/-- A refusal: no state changes, and the status carries no payload (R162). -/
def refuse (s : State) (st : Status) : Served := (s, some { status := st, payload := .empty })

/-- An OK answer with its payload. -/
def accept (s : State) (pl : Payload) : Served := (s, some { status := .ok, payload := pl })

/-- A plain answer of a port: a status with no payload. -/
def plain (st : Status) : Response := { status := st, payload := .empty }

/-- The meter port's slot replaced. -/
def State.setSlot (s : State) (x : Slot) : State := s.setMeter { s.meter with slot := x }

/-- The bytes MISO carries in so many complete bytes: what the slot calls for, then 0x00 (R157). -/
def misoBytes (lead : List Byte) (clocked : Nat) : List Byte := (lead ++ List.replicate clocked 0).take clocked

/-- CSn falls, and so many complete bytes are clocked before it rises (R157). A transaction that ends before one byte is
complete shifts nothing and leaves the slot as it found it. A transaction still open was empty (log 6). -/
def State.csFall (s : State) (clocked : Nat) : State :=
  match clocked with
  | 0 => (s.setMeter { s.meter with txn := none }).setPins { s.pins with miso := [] }
  | _ + 1 =>
    match s.meter.slot with
    | .idle =>
      (s.setMeter { s.meter with txn := some { discard := false, clocked := clocked } }).setPins
        { s.pins with miso := misoBytes [] clocked }
    | .taking _ =>
      (s.setMeter { s.meter with txn := some { discard := true, clocked := clocked } }).setPins
        { s.pins with miso := misoBytes [0x80] clocked }
    | .holding r =>
      (s.setMeter { s.meter with slot := .idle, txn := some { discard := false, clocked := clocked } }).setPins
        { s.pins with miso := misoBytes (meterFrame r) clocked }

/-- The transaction that carries a request of so many bytes: the one that is open, or, where no CSN_FALL was given, one whose
fall this command stands for too (log 6). -/
def State.openTxn (s : State) (clocked : Nat) : State := if s.meter.txn.isSome then s else s.csFall clocked

/-- CSn rises: no transaction is in progress. -/
def State.csRise (s : State) : State := s.setMeter { s.meter with txn := none }

/-- A request frame arrives whole on the meter port (R157, R158): discarded where the transaction began in TAKING, answered
FRAME where too few bytes were clocked, answered BUSY at once during start-up (R144), and otherwise taken. -/
def State.takeMeter (s : State) (payload : Nat) (always : Bool) (op : State → Served) : State :=
  let s1 := s.openTxn (payload + 3)
  match s1.meter.txn with
  | none => s1
  | some t =>
    if t.discard then s1.csRise
    else if t.clocked < payload + 3 then s1.csRise.setSlot (.holding (plain .frame))
    else if s1.inStartUp && !always then s1.csRise.setSlot (.holding (plain .busy))
    else
      match op s1.csRise with
      | (s2, some r) => s2.setSlot (.taking r)
      | (s2, none) => s2

/-- The receiver in HUNT with its timer stopped (R159). -/
def SurveyPort.hunting (u : SurveyPort) : SurveyPort := { u with rx := .hunt, buf := [], timer := false }

/-- A frame begun while a request is outstanding: one more overrun (R159). -/
def SurveyPort.overrun (u : SurveyPort) : SurveyPort := { u with overruns := satAdd 65535 u.overruns 1 }

/-- The outstanding request replaced (R160). -/
def State.setOut (s : State) (o : Option Outstanding) : State := s.setUart { s.uart with out := o }

/-- A good request frame is complete on the survey port, and its receiver back in HUNT (R159, R160): dropped and counted where a
request was outstanding as it began, answered BUSY during start-up (R144), and otherwise taken. -/
def State.takeSurvey (s : State) (code : Byte) (always : Bool) (op : State → Served) : State :=
  let s1 := s.setUart s.uart.hunting
  if s.uart.out.isSome then s1.setUart s1.uart.overrun
  else if s.inStartUp && !always then s1.setOut (some { code := code, reply := plain .busy, sending := true })
  else
    match op s1 with
    | (s2, some r) => s2.setOut (some { code := code, reply := r, sending := false })
    | (s2, none) => s2

/-- A request of R161 arrives on a port: its payload length in bytes, whether it is taken during start-up (STATUS alone, R144),
and its operation. While RESETn is low or VDD is absent the frame is not received (R138). -/
def State.take (s : State) (p : Port) (r : Req) (payload : Nat) (always : Bool) (op : State → Served) : State :=
  if s.receiving then
    match p with
    | .meter => s.takeMeter payload always op
    | .survey => s.takeSurvey r.code always op
  else s

/-! ## Restarts -/

/-- The ACTIVE record completed by a restart (R140): its end time is the clock at the beginning of the restart. -/
def abandonRecord (now : Nat) (cause : EndCause) (r : Record) : Record :=
  if r.state = .active then { r with state := .abandoned, stop := some now, cause := cause } else r

/-- The end cause a restart gives (R140). -/
def Cause.endCause : Cause → EndCause
  | .powerRetained => .power
  | .powerLost => .power
  | .resetLine => .reset
  | .soft => .reset

/-- The retained domain after POWER_LOST, with the retention mark written (R141, R139). -/
def State.clearRetained (s : State) : State :=
  { s with clock := .lost, survey := .lost, bases := [], loop := .lost, queue := [], log := .lost, mark := true }

/-- Responses not yet sent are lost, partial frames and the commit in progress are cut short as a restart begins
(R145, R156, R160; log 12). -/
def State.cutShort (s : State) : State :=
  { s with
    meter := { s.meter with slot := .idle, txn := none }
    uart := { s.uart.hunting with out := none }
    store := { s.store with commit := none } }

/-- A restart begins with a cause (R138) and takes its stage 1 (R139): POWER_LOST clears the retained domain; the others
complete the ACTIVE record. -/
def State.beginRestart (s : State) (c : Cause) : State :=
  let s1 :=
    if c = .powerLost then s.clearRetained
    else s.setLog { s.log with records := s.log.records.map (abandonRecord s.clock.value c.endCause) }
  let s2 := s1.cutShort
  { s2 with
    survey := { s2.survey with lastCause := c }
    supply := { s2.supply with restartDue := false }
    startUp := some .mainDomain }

/-- The main domain's fields taken from another state: what a domain without supply holds (R137, log 4). -/
def State.mainFrom (s g : State) : State :=
  { s with
    meter := g.meter
    uart := g.uart
    chain := g.chain
    cache := g.cache
    occ := g.occ
    closurePos := g.closurePos
    pendingPos := g.pendingPos
    store := g.store }

/-- The retained domain's fields taken from another state, the retention mark destroyed (R137, log 4). -/
def State.retainedFrom (s g : State) : State :=
  { s with
    clock := g.clock
    survey := g.survey
    bases := g.bases
    loop := g.loop
    queue := g.queue
    log := g.log
    mark := false }

/-- The next free value is taken. -/
def State.nextFree (s : State) : State := { s with free := s.free + 1 }

end Sys2Proof.Machine
end

