-- ==== Sys2Proof/Machine/Tide.lean ====
section
/-! DEFINITION. The earth-tide generator (Chapter 3): position in force, latitude factors and their cache, the evaluation. -/

namespace Sys2Proof.Machine

/-! ## Positions -/

/-- Micro-degrees as an angle in 2⁻²⁴ turn (R48): rounded, then taken modulo 2²⁴. -/
def toTurns (x : Int) : Nat := modNat (roundDiv (x * 16777216) 360000000) 16777216

/-- The position in force (R49): the active record's, else the pending position, else the newest record's, else none. -/
def State.positionInForce (s : State) : Option Position :=
  match s.activeRecord with
  | some r => some r.pos
  | none =>
    match s.pendingPos with
    | some p => some p
    | none => s.log.newest.map (·.pos)

/-! ## Latitude factors -/

/-- 32,767 × sin φ to the resolution of the table (R51). -/
def sinOf (phi : Nat) : Int := cosEntry ((cosIndex phi + 3072) % 4096)

/-- 32,767 × cos φ (R51). -/
def cosOf (phi : Nat) : Int := cosEntry (cosIndex phi)

/-- The long-period factor L0 (R51). -/
def factor0 (phi : Nat) : Int := floorDiv (32767 - 3 * roundDiv (sinOf phi * sinOf phi) 32768) 2

/-- The diurnal factor L1 (R51). -/
def factor1 (phi : Nat) : Int := clampInt (-32767) 32767 (roundDiv (2 * sinOf phi * cosOf phi) 32768)

/-- The semidiurnal factor L2 (R51). -/
def factor2 (phi : Nat) : Int := roundDiv (cosOf phi * cosOf phi) 32768

/-- The cache entry formed from a position (R48, R51, R52). -/
def formEntry (p : Position) : CacheEntry :=
  { key := p, lam := toTurns p.lon, phi := toTurns p.lat, l0 := factor0 (toTurns p.lat), l1 := factor1 (toTurns p.lat),
    l2 := factor2 (toTurns p.lat) }

/-- The entry used for a position: the cached one where its key is the position, else a new one (R52). -/
def cachedEntry (cache : Option CacheEntry) (p : Position) : CacheEntry :=
  match cache with
  | some e => if e.key = p then e else formEntry p
  | none => formEntry p

/-- The latitude factor of a species (R51): 0 long-period, 1 diurnal, 2 semidiurnal. -/
def CacheEntry.factor (e : CacheEntry) : Nat → Int
  | 0 => e.l0
  | 1 => e.l1
  | _ => e.l2

/-! ## The evaluation -/

/-- The phase of a constituent at survey time t (R56). -/
def Constituent.phase (c : Constituent) (t lam : Nat) : Nat :=
  (c.p + c.f * t % 17592186044416 / 1048576 + c.species * lam) % 16777216

/-- The term of a constituent (R57). -/
def Constituent.term (c : Constituent) (e : CacheEntry) (t : Nat) : Int :=
  roundDiv (c.a * e.factor c.species * cosEntry (cosIndex (c.phase t e.lam))) 1073741824

/-- The sum of the terms of the constituents in use (R58, step 1). -/
def TideBlock.sumT (b : TideBlock) (e : CacheEntry) (t : Nat) : Int := ((b.parts.take b.m).map fun c => c.term e t).sum

/-- The tide correction before its clamp: −tideg (R58, steps 2 and 3). -/
def TideBlock.rawTide (b : TideBlock) (e : CacheEntry) (t : Nat) : Int := -roundDiv (b.sumT e t * (b.delta : Int)) 16384

/-- What an evaluation returns: tidec, its flags (as a sample's flag set with the tide flags alone), and the cache after it. -/
structure TideTerm where
  tidec : Int
  flags : SampleFlags
  cache : Option CacheEntry
  deriving DecidableEq, Repr, Inhabited

/-- The evaluation of the tide at a stamp (R54, R55, R58): 0 with its flags where the tide is off, the clock was unset or no
position is in force, and the cache is then left as it stands. -/
def tideTerm (b : TideBlock) (cache : Option CacheEntry) (pos : Option Position) (isSet : Bool) (t : Nat) : TideTerm :=
  let off := !b.enabled || decide (b.m = 0)
  match off || !isSet, pos with
  | false, some p =>
    let e := cachedEntry cache p
    let raw := b.rawTide e t
    let c := clampInt (-4000) 4000 raw
    { tidec := c, flags := { SampleFlags.clear with tideClamp := decide (c ≠ raw) }, cache := some e }
  | _, _ =>
    { tidec := 0, flags := { SampleFlags.clear with tideOff := off, noClock := !isSet, noPos := pos.isNone }, cache := cache }

end Sys2Proof.Machine
end

