-- ==== Sys2Proof/Machine/Chain.lean ====
section
/-! DEFINITION. The correction chain (Chapter 2), the settle monitor and the accumulator (Chapter 4): SAMPLE and READ LIVE. -/

namespace Sys2Proof.Machine

/-! ## Calibration, tilt, temperature -/

/-- The last raw reading covered: N × 1,000,000 − 1 (R23). -/
def CalBlock.top (c : CalBlock) : Nat := c.n * 1000000 - 1

/-- The reading exceeds the covered span (R23). -/
def CalBlock.beyond (c : CalBlock) (r : Nat) : Bool := decide (c.top < r)

/-- The reading used, clamped to the covered span (R23). -/
def CalBlock.used (c : CalBlock) (r : Nat) : Nat := if c.top < r then c.top else r

/-- The interval index of a reading used (R23, R24). -/
def calIndex (r : Nat) : Nat := r / 1000000

/-- The offset within the interval (R23). -/
def calOffset (r : Nat) : Nat := r % 1000000

/-- The calibrated value of a reading used: G_i + round(d × F_i / 2³⁰) (R23). -/
def CalBlock.convert (c : CalBlock) (r : Nat) : Int :=
  let v := (c.intervals[calIndex r]?).getD { g := 0, f := 0 }
  v.g + roundDiv ((calOffset r : Int) * (v.f : Int)) 1073741824

/-- The tilt correction (R27). -/
def tiltTerm (rx ry : Int) (kt : Nat) : Int := clampInt 0 1000000 (roundDiv ((rx * rx + ry * ry) * (kt : Int)) 16777216)

/-- The thermal filter stepped (R29). -/
def filterStep (tf : Int) (primed : Bool) (dT : Int) (shift : Nat) : Int :=
  if primed then tf + floorDiv (dT * 256 - tf) (2 ^ shift) else dT * 256

/-- The temperature correction (R30): the negation follows the rounding. -/
def tempTerm (tf tc : Int) : Int := clampInt (-1000000) 1000000 (-roundDiv (tf * tc) 16777216)

/-! ## Sequence numbers and lost samples -/

/-- The samples lost before a sample with this number (R17). -/
def lostBefore (expected : Option Nat) (seq : Nat) : Nat :=
  match expected with
  | none => 0
  | some h => modNat ((seq : Int) - (h : Int)) 256 - 1

/-- A loss reported to the chain and to an active occupation (R18, R72). -/
def State.reportLoss (s : State) (lost : Nat) : State :=
  if lost = 0 then s
  else
    let s1 := s.setChain { s.chain with lost := satAdd 65535 s.chain.lost lost }
    if s.occ.isActive then
      (s1.setOcc { s1.occ with counts := { s1.occ.counts with loss := true } }).markActive fun q => { q with loss := true }
    else s1

/-- Stage 1 of a sample (R16): the sequence expectation and any loss. -/
def State.takeSequence (s : State) (seq : Nat) : State :=
  (s.setMeter { s.meter with expected := some seq }).reportLoss (lostBefore s.meter.expected seq)

/-! ## The accumulator -/

/-- A sample accumulated, or passed over where the accumulator is full (R77, R78). -/
def Sums.accumulate (a : Sums) (v : Int) (t : Nat) : Sums :=
  if 65535 ≤ a.n then { a with saturated := true }
  else
    let f : First := if a.n = 0 then { v := v, t := t } else a.first.getD { v := v, t := t }
    let d := clampInt (-65535) 65535 (v - f.v)
    { a with
      n := a.n + 1
      first := some f
      sumD := a.sumD + d
      sumD2 := a.sumD2 + d.natAbs * d.natAbs
      sumT := a.sumT + ((t : Int) - (f.t : Int))
      wide := a.wide || decide (d ≠ v - f.v) }

/-- A sample taken in SETTLED reaches the sums (R70): accumulated, or added to the rejected count. -/
def Sums.settledSample (a : Sums) (rejected : Bool) (v : Int) (t : Nat) : Sums :=
  if rejected then { a with rejected := satAdd 65535 a.rejected 1 } else a.accumulate v t

/-- The mean of the sums as they stand (R80): absent when n is 0. -/
def Sums.mean (a : Sums) : Option Int :=
  match a.first with
  | some f => if a.n = 0 then none else some (f.v + roundDiv a.sumD a.n)
  | none => none

/-! ## The settle monitor -/

/-- The quiet reference after a sample (R67): an unflagged sample becomes it. -/
def nextRef (ref : Option Int) (rejected : Bool) (v : Int) : Option Int := if rejected then ref else some v

/-- A sample handed to the controller in SETTLING (R67 to R69, R73). -/
def State.settlingSample (s : State) (q : Nat) (l : Live) : State :=
  let quiet := isQuiet l.flags.rejected s.occ.ref l.v s.store.work.settle.q
  let run := if quiet then s.occ.run + 1 else 0
  let o := { s.occ with ref := nextRef s.occ.ref l.flags.rejected l.v, gap := 0, run := run }
  if run = s.store.work.settle.a then
    (s.setOcc { o with state := .settled q, window := quietWindow }).raise .settled
  else s.setOcc { o with window := pushMark s.occ.window (!quiet) }

/-- A sample handed to the controller in SETTLED (R67, R68, R70, R71, R73). -/
def State.settledSample (s : State) (q : Nat) (l : Live) : State :=
  let quiet := isQuiet l.flags.rejected s.occ.ref l.v s.store.work.settle.q
  let window := pushMark s.occ.window (!quiet)
  let s1 := s.markActive fun w => w.seen l.flags
  let o := { s1.occ with
    ref := nextRef s.occ.ref l.flags.rejected l.v
    gap := 0
    sums := s.occ.sums.settledSample l.flags.rejected l.v l.time
    window := window }
  if s.store.work.settle.e < notQuietCount window then
    (s1.setOcc { o with
      sums := .clear
      counts := { o.counts with losses := satAdd 255 o.counts.losses 1 }
      state := .settling q
      run := 0
      window := quietWindow }).raise .settleLost
  else s1.setOcc o

/-- A corrected sample handed to the occupation controller where an occupation is active (R35). -/
def State.handSample (s : State) (l : Live) : State :=
  match s.occ.state with
  | .none => s
  | .settling q => s.settlingSample q l
  | .settled q => s.settledSample q l

/-! ## SAMPLE -/

/-- The live reading record that a sample's fields give (R16 stages 2 to 7, R36), with the tide term given. -/
def State.liveOf (s : State) (seq r : Nat) (tx ty dT : Int) (locked : Bool) (tide : TideTerm) : Live :=
  let k := s.store.work
  let used := k.cal.used r
  let rx := tx - k.sensor.ox
  let ry := ty - k.sensor.oy
  let cal := k.cal.convert used
  let tiltc := tiltTerm rx ry k.sensor.kt
  let tempc := tempTerm (filterStep s.chain.tf s.chain.primed dT k.sensor.shift) k.sensor.tc
  { seq := seq, time := s.clock.value, raw := r, interval := calIndex used, offset := calOffset used, rx := rx, ry := ry,
    dT := dT, cal := cal, tiltc := tiltc, tempc := tempc, tidec := tide.tidec, v := cal + tiltc + tempc + tide.tidec,
    flags := { tide.flags with
      range := k.cal.beyond r, tilt := tiltExceeds rx ry k.sensor.lt, meter := !locked } }

/-- The tide term of a sample taken now (R33, R54). -/
def State.tideNow (s : State) : TideTerm :=
  tideTerm s.store.work.tide s.cache s.positionInForce s.clock.isSet s.clock.value

/-- Stages 2 to 8 of a sample (R16): the filter stepped, the cache as the evaluation leaves it, the live reading replaced and
CURRENT, the staleness count 0 (R29, R36, R38, R39, R52). -/
def State.correctSample (s : State) (l : Live) (cache : Option CacheEntry) : State :=
  let tf := filterStep s.chain.tf s.chain.primed l.dT s.store.work.sensor.shift
  let s1 := s.setChain { s.chain with tf := tf, primed := true, live := some l, stale := false }
  (s1.setCache cache).setOcc { s1.occ with staleness := 0 }

/-- SAMPLE (R15, R16): all nine stages as one operation. -/
def opSample (p : Port) (seq : Byte) (r : U32) (tx ty dT : U16) (flags : Byte) (s : State) : Served :=
  match p with
  | .survey => refuse s .denied
  | .meter =>
    let s1 := s.takeSequence seq.toNat
    let tide := s1.tideNow
    let l := s1.liveOf seq.toNat r.toNat (sampleField tx) (sampleField ty) (sampleField dT) (!notLocked flags) tide
    accept ((s1.correctSample l tide.cache).handSample l) .empty

/-! ## READ LIVE -/

/-- The snapshot READ LIVE returns (R40, R41). DESIGN CHOICE (log 29): R41 says that in NONE the displayed sample was not accumulated;
the model follows R36 and R82, by which a sample accumulated before an END stays displayed, in NONE, until the next one. -/
def State.liveReport (s : State) : LiveReport :=
  { live := s.chain.live, stale := s.chain.stale, lost := s.chain.lost, state := s.occ.state.name, run := s.occ.run,
    notQuiet := notQuietCount s.occ.window, n := s.occ.sums.n, mean := s.occ.sums.mean }

/-- READ LIVE (R40). -/
def opReadLive (s : State) : Served := accept s (.live s.liveReport)

end Sys2Proof.Machine
end

