-- ==== Sys2Proof/Machine/Clock.lean ====
section
/-! DEFINITION. The survey clock (Chapter 1): SET CLOCK, READ CLOCK, the second boundary and what it drives, the crystal. -/

namespace Sys2Proof.Machine

/-- An accepted SET CLOCK (R11): the value and flag set, the divider at its start, CLOCK_SET raised, and UNSET left where the
condition holds (R131). -/
def State.clockSetTo (s : State) (v : Nat) : State :=
  ((s.setClock { value := v, isSet := true, divider := 0 }).raise .clockSet).leaveUnset

/-- SET CLOCK (R10). -/
def opSetClock (p : Port) (v : U32) (s : State) : Served :=
  match p with
  | .meter => refuse s .denied
  | .survey =>
    if s.inSurvey ∧ 2 < ((v.toNat : Int) - (s.clock.value : Int)).natAbs then refuse s .clockStep
    else accept (s.clockSetTo v.toNat) .empty

/-- READ CLOCK (R12). -/
def opReadClock (s : State) : Served := accept s (.clock s.clock.value s.clock.isSet)

/-- SECOND_BOUNDARY: the divider completes a second (R7, R8). A clock that does not run raises no boundary. -/
def execSecondBoundary (s : State) : Host.Outcome State Fault Refusal :=
  .next (if s.clockRuns then s.boundary else s)

/-- The next second boundary brings the gap counter of an active occupation to the gap limit (R73). -/
def State.gapDue (s : State) : Bool :=
  s.clockRuns && s.mainLive && s.occ.isActive && decide (s.occ.gap + 1 = s.store.work.settle.gapLimit)

/-- GAP_EXPIRY: the second boundary at which the gap counter reaches the gap limit (R73, R74). DEDUCED (log 7): the expiry is
part of its boundary (R75), so this command is that whole boundary; elsewhere there is none to take. -/
def execGapExpiry (s : State) : Host.Outcome State Fault Refusal :=
  .next (if s.gapDue then s.boundary else s)

/-- The next second boundary brings the staleness count of a CURRENT live reading to the gap limit (R38). -/
def State.staleDue (s : State) : Bool :=
  s.clockRuns && s.mainLive && !s.chain.stale && decide (s.store.work.settle.gapLimit ≤ satAdd 255 s.occ.staleness 1)

/-- LIVE_READING_STALE: the second boundary at which the staleness count reaches the gap limit (R38). DEDUCED (log 7), as
GAP_EXPIRY. -/
def execLiveReadingStale (s : State) : Host.Outcome State Fault Refusal :=
  .next (if s.staleDue then s.boundary else s)

/-- One period of the crystal (R7): the divider counts it, and the 32,768th completes a second. The clock holds its start while
it is unset. This is what `step` does on an empty queue (log 8). -/
def State.crystal (s : State) : State :=
  if s.clockRuns then
    if s.clock.divider + 1 < 32768 then s.setClock { s.clock with divider := s.clock.divider + 1 } else s.boundary
  else s

end Sys2Proof.Machine
end

