-- ==== Sys2Proof/Machine/Loop.lean ====
section
/-! DEFINITION. The loop engine (Chapter 6): the base table, reductions and ties at END, closures, CLOSE SURVEY's marking. -/

namespace Sys2Proof.Machine

/-! ## The base table -/

/-- The entry of a station id (R108). -/
def findBase (bases : List BaseEntry) (id : Nat) : Option BaseEntry := bases.find? fun e => e.id == id

/-- A record is a tie at a station id: FIRST or CLOSING (R108). -/
def Record.isTieAt (r : Record) (id : Nat) : Bool := r.role != .none && r.station == id

/-- A record is the active BASE occupation of a station id (R108). -/
def Record.isBaseAt (r : Record) (id : Nat) : Bool := r.kind == .base && r.station == id

/-- The entry of a station id is in use (R108). -/
def State.baseInUse (s : State) (id : Nat) : Bool :=
  s.log.records.any (·.isTieAt id) || (s.activeRecord.map (·.isBaseAt id)).getD false

/-- An entry added, or the value of the same id replaced; the table is kept in increasing order of id, the order READ BASES
gives it (R109, R112). -/
def insertBase (id : Nat) (value : Int) : List BaseEntry → List BaseEntry
  | [] => [{ id := id, value := value }]
  | e :: rest =>
    if id < e.id then { id := id, value := value } :: e :: rest
    else if id = e.id then { id := id, value := value } :: rest
    else e :: insertBase id value rest

/-- The adopted values accepted (R109). -/
def adoptedOk (v : Int) : Bool := withinInt (-200000000) 200000000 v

/-- LOAD BASE (R109). -/
def opLoadBase (p : Port) (id value : U32) (s : State) : Served :=
  match p with
  | .meter => refuse s .denied
  | .survey =>
    if s.survey.state = .unset then refuse s .state
    else if !(stationOk id.toNat && adoptedOk value.toInt) then refuse s .range
    else if (findBase s.bases id.toNat).isSome then
      if s.baseInUse id.toNat then refuse s .inUse
      else accept (s.setBases (insertBase id.toNat value.toInt s.bases)) (.baseCount s.bases.length)
    else if 24 ≤ s.bases.length then refuse s .tableFull
    else accept (s.setBases (insertBase id.toNat value.toInt s.bases)) (.baseCount (s.bases.length + 1))

/-- The table without an id's entry (R110). -/
def removeBase (id : Nat) (bases : List BaseEntry) : List BaseEntry := bases.filter fun e => e.id != id

/-- DROP BASE (R110). -/
def opDropBase (p : Port) (id : U32) (s : State) : Served :=
  match p with
  | .meter => refuse s .denied
  | .survey =>
    if s.survey.state = .unset then refuse s .state
    else if !stationOk id.toNat then refuse s .range
    else if (findBase s.bases id.toNat).isNone then refuse s .noBase
    else if s.baseInUse id.toNat then refuse s .inUse
    else accept (s.setBases (removeBase id.toNat s.bases)) (.baseCount (removeBase id.toNat s.bases).length)

/-- The entries of one READ BASES response: 8 on the meter port, 24 on the survey port (R112). -/
def basesPerResponse : Port → Nat
  | .meter => 8
  | .survey => 24

/-- READ BASES (R112). END is set when the response holds the greatest id or no entry: when no entry was left out. -/
def opReadBases (p : Port) (start : U32) (s : State) : Served :=
  let found := s.bases.filter fun e => decide (start.toNat ≤ e.id)
  accept s (.bases s.bases.length ((found.take (basesPerResponse p)).map fun e => (e, s.baseInUse e.id))
    (decide (found.length ≤ basesPerResponse p)))

/-! ## Reductions at END -/

/-- The predicted increment of a pair over a projection time (R120). -/
def predictedIncrement (pr : Prediction) (a : Tie) (tm ll : Nat) : Int :=
  let x := clampInt 0 (ll : Int) ((tm : Int) - (a.time : Int))
  clampInt (-10000000) 10000000 (roundDiv (pr.off * x) pr.dt)

/-- The provisional drift in an open loop (R120). -/
def provisionalDrift (pr : Option Prediction) (a : Tie) (tm ll : Nat) : Int :=
  match pr with
  | some x => a.off + predictedIncrement x a tm ll
  | none => a.off

/-- A reduction part with a status, a drift and the reduced value that follows from a mean. -/
def reductionOf (st : RedStatus) (mean drift : Int) : Reduction :=
  { Reduction.none with status := st, figures := some { drift := drift, reduced := mean - drift } }

/-- The reduction of a STATION record with a result, or of a BASE record that is SHORT (R120, R121). -/
def stationReduction (l : LoopCtx) (res : Result) (ll : Nat) : Reduction :=
  match l.opening with
  | some a =>
    { reductionOf .provisional res.mean (provisionalDrift l.prediction a res.time ll) with
      predicted := l.prediction.isSome }
  | none => reductionOf .untied res.mean 0

/-- The prediction pair a closed loop leaves (R118). -/
def predictionOf (a b : Tie) (limit : Nat) : Option Prediction :=
  if a.time < b.time ∧ misclosed a b limit = false then some { off := b.off - a.off, dt := b.time - a.time } else none

/-- The adopted value of a station id; the table holds it wherever a run reaches this (R116, log 10). -/
def adoptedValue (bases : List BaseEntry) (id : Nat) : Int :=
  match findBase bases id with
  | some e => e.value
  | none => Config.absentBase id

/-- The tie a BASE record's result forms (R116). -/
def tieOf (bases : List BaseEntry) (r : Record) (res : Result) : Tie :=
  { seq := r.seq, time := res.time, off := res.mean - adoptedValue bases r.station }

/-- The reduction part of a tie record: FINAL, drift = off, reduced = adopted (R116). -/
def tieReduction (b : Tie) (adopted : Int) : Reduction :=
  { Reduction.none with status := .final, figures := some { drift := b.off, reduced := adopted } }

/-- A completed record written back over the one it completes (R95). -/
def State.putRecord (s : State) (r : Record) : State := s.setLog (s.log.modify r.seq fun _ => r)

/-- A FIRST tie: it opens a loop (R116). -/
def State.firstTie (s : State) (r : Record) (b : Tie) : State :=
  ((s.putRecord { r with red := tieReduction b (adoptedValue s.bases r.station), role := .first }).setLoop
    { s.loop with counter := s.loop.counter + 1, opening := some b }).raise .tieFormed

/-- A CLOSING tie: it closes the open loop, queues its closure and opens the next (R117, R118, R123). -/
def State.closingTie (s : State) (r : Record) (a b : Tie) : State :=
  let k := s.store.work.loop
  let red := { tieReduction b (adoptedValue s.bases r.station) with
    misclosed := misclosed a b k.limit, long := isLong a b k.ll }
  let s1 := s.putRecord { r with red := red, role := .closing }
  let s2 := s1.setQueue (s.queue ++ [{ loop := s.loop.counter, a := a, b := b }])
  let s3 := s2.setLoop { counter := s.loop.counter + 1, opening := some b, prediction := predictionOf a b k.limit }
  (if s.queue.isEmpty then s3.setClosurePos (some (a.seq + 1)) else s3).raise .tieFormed

/-- The loop engine's work on a record completed by END, not yet written to the log (R115). `r` holds its result and its
quality flags, SHORT among them. -/
def State.reduceEnded (s : State) (r : Record) : State :=
  match r.result with
  | none => s.putRecord { r with quality := { r.quality with tieRejected := r.kind == .base } }
  | some res =>
    if r.kind = .base ∧ r.quality.short = false then
      match s.loop.opening with
      | none => s.firstTie r (tieOf s.bases r res)
      | some a => s.closingTie r a (tieOf s.bases r res)
    else
      s.putRecord { r with
        quality := { r.quality with tieRejected := r.kind == .base }
        red := stationReduction s.loop res s.store.work.loop.ll }

/-! ## Closures -/

/-- The final drift of a record (R124). -/
def finalDrift (e : ClosureEntry) (tm : Nat) : Int :=
  if e.a.time < e.b.time then
    let t := clampInt (e.a.time : Int) (e.b.time : Int) (tm : Int)
    e.a.off + roundDiv ((e.b.off - e.a.off) * (t - (e.a.time : Int))) (e.b.time - e.a.time)
  else e.a.off

/-- The final reduction of a record (R124, R125); PREDICTED keeps its value. -/
def finalReduction (e : ClosureEntry) (k : LoopBlock) (predicted : Bool) (res : Result) : Reduction :=
  { reductionOf .final res.mean (finalDrift e res.time) with
    predicted := predicted
    misclosed := misclosed e.a e.b k.limit
    long := isLong e.a e.b k.ll
    zeroSpan := isZeroSpan e.a e.b }

/-- What the closure writes over the record at its position (R123): only an ENDED record with a result and no tie role. -/
def closeRecord (e : ClosureEntry) (k : LoopBlock) (r : Record) : Record :=
  match r.result with
  | some res =>
    if r.state = .ended ∧ r.role = .none then { r with red := finalReduction e k r.red.predicted res } else r
  | none => r

/-- The position at which a queue's head begins (R123). -/
def closureStart (q : List ClosureEntry) : Option Nat := q.head?.map fun e => e.a.seq + 1

/-- The closure in flight completes (R126). -/
def State.closureDone (s : State) : State :=
  ((s.setQueue s.queue.tail).setClosurePos (closureStart s.queue.tail)).raise .loopClosed

/-- One step of the closure in flight (R123). DESIGN CHOICE (log 25): a closure that goes on in HELD behind a restart which lost the
LOOP image (R128, R156) is judged by the limits of the working copy as reloaded, although R113 has one survey's closures judged by
the same two limits. -/
def State.closureStep (s : State) : State :=
  match s.queue, s.closurePos with
  | e :: _, some p =>
    if e.b.seq ≤ p then s.closureDone
    else (s.setLog (s.log.modify p (closeRecord e s.store.work.loop))).setClosurePos (some (p + 1))
  | _, _ => s

/-- CLOSURE_STEP (R123). No closure step is taken during start-up (R128), nor while the main domain has no supply. -/
def execClosureStep (s : State) : Host.Outcome State Fault Refusal :=
  .next (if s.mainLive && !s.inStartUp then s.closureStep else s)

/-! ## Closing and opening a survey -/

/-- A PROVISIONAL record after the opening tie becomes UNCLOSED (R129). -/
def uncloseRecord (a : Tie) (r : Record) : Record :=
  if a.seq < r.seq ∧ r.red.status = .provisional then { r with red := { r.red with status := .unclosed } } else r

/-- The loop engine at an accepted CLOSE SURVEY (R129). -/
def State.closeLoops (s : State) : State :=
  let s1 :=
    match s.loop.opening with
    | some a => s.setLog { s.log with records := s.log.records.map (uncloseRecord a) }
    | none => s
  s1.setLoop { s.loop with opening := none, prediction := none }

end Sys2Proof.Machine
end

