-- ==== Sys2Proof/Machine/Occupation.lean ====
section
/-! DEFINITION. The occupation controller's requests (Chapter 4): OCCUPY, OCCUPY NEXT, END, ABANDON. -/

namespace Sys2Proof.Machine

/-! ## Starting an occupation -/

/-- The log can take no record: 512 records, or an exhausted counter (R88, R89; check 5 of R64). -/
def Log.full (l : Log) : Bool := decide (512 ≤ l.records.length) || decide (4294967296 ≤ l.counter)

/-- What an occupation starts with. -/
structure Start where
  kind : Kind
  station : Nat
  pos : Position
  source : Source
  deriving DecidableEq, Repr, Inhabited

/-- The record an accepted OCCUPY or OCCUPY NEXT creates (R65). -/
def State.newRecord (s : State) (p : Port) (o : Start) : Record :=
  { seq := s.log.counter, survey := s.survey.number, kind := o.kind, station := o.station, pos := o.pos,
    source := o.source, digest := s.store.digest, loopNo := if s.loop.opening.isSome then s.loop.counter else 0,
    origin := p, start := s.clock.value, state := .active, stop := none, cause := .none, result := none,
    quality := .created (o.source == .carried), red := .none, role := .none }

/-- A record joins the log, and LOG_NEAR_FULL is raised on the step from 479 to 480 (R88, R89, R96). -/
def State.appendRecord (s : State) (r : Record) : State :=
  let s1 := s.setLog { records := s.log.records ++ [r], counter := s.log.counter + 1 }
  if s.log.records.length = 479 then s1.raise .logNearFull else s1

/-- The next station id after an id (R66): absent where it would leave 1 to 999,999. -/
def nextStation (id : Nat) (step : Int) : Option Nat :=
  if 1 ≤ (id : Int) + step ∧ (id : Int) + step ≤ 999999 then some ((id : Int) + step).toNat else none

/-- The line advanced from a STATION id; a BASE leaves it (R62, R66). -/
def State.advanceLine (s : State) (o : Start) : State :=
  match o.kind with
  | .station => s.setSurvey { s.survey with nextId := nextStation o.station s.survey.step }
  | .base => s

/-- The occupation controller as an occupation begins (R65). -/
def Occupation.begun (o : Occupation) (q : Nat) : Occupation := { o.idle with state := .settling q }

/-- An accepted OCCUPY or OCCUPY NEXT (R65, R66, R96). -/
def State.startOccupation (s : State) (p : Port) (o : Start) : State :=
  ((s.appendRecord (s.newRecord p o)).advanceLine o).setOcc (s.occ.begun s.log.counter)

/-- The answer to an accepted OCCUPY or OCCUPY NEXT (R64). -/
def createdAnswer (seq : Nat) (o : Start) : Payload := .created seq o.station o.kind o.source

/-- OCCUPY (R62, R64): the kind BASE is code 1 (R161). -/
def opOccupy (p : Port) (kind : Byte) (id lat lon : U32) (s : State) : Served :=
  match p with
  | .meter => refuse s .denied
  | .survey =>
    if s.survey.state ≠ .survey then refuse s .state
    else if s.occ.isActive then refuse s .active
    else if s.log.full then refuse s .logFull
    else if kindOf kind = some .base ∧ (findBase s.bases id.toNat).isNone then refuse s .noBase
    else
      match kindOf kind with
      | none => refuse s .range
      | some k =>
        let o : Start := { kind := k, station := id.toNat, pos := positionOf lat lon, source := .given }
        if stationOk id.toNat && o.pos.ok then accept (s.startOccupation p o) (createdAnswer s.log.counter o)
        else refuse s .range

/-- The position OCCUPY NEXT takes and its source (R63). -/
def State.nextPosition (s : State) : Option (Position × Source) :=
  match s.pendingPos with
  | some x => some (x, .given)
  | none => s.log.newest.map fun r => (r.pos, .carried)

/-- OCCUPY NEXT (R63, R64): a pending position is consumed. -/
def opOccupyNext (p : Port) (s : State) : Served :=
  if s.survey.state ≠ .survey then refuse s .state
  else if s.occ.isActive then refuse s .active
  else if s.log.full then refuse s .logFull
  else
    match s.survey.nextId with
    | none => refuse s .noId
    | some id =>
      match s.nextPosition with
      | none => refuse s .noPosition
      | some (pos, source) =>
        let o : Start := { kind := .station, station := id, pos := pos, source := source }
        accept ((s.startOccupation p o).setPendingPos none) (createdAnswer s.log.counter o)

/-! ## Ending an occupation -/

/-- The scatter of the sums (R81). -/
def Sums.scatter (a : Sums) : Nat :=
  if a.n < 2 then 0
  else
    let num := (a.n : Int) * (a.sumD2 : Int) - a.sumD * a.sumD
    let x := isqrt (num.toNat / (a.n * (a.n - 1)))
    if 65535 < x then 65535 else x

/-- The mean time of the sums (R80). -/
def Sums.meanTime (a : Sums) (t0 : Nat) : Nat := ((t0 : Int) + roundDiv a.sumT a.n).toNat

/-- The station result (R80, R93): absent when n is 0. -/
def stationResult (a : Sums) (c : Counts) : Option Result :=
  match a.mean, a.first with
  | some m, some f =>
    some
      { n := a.n, rejected := a.rejected, mean := m, time := a.meanTime f.t, scatter := a.scatter, gaps := c.gaps,
        losses := c.losses }
  | _, _ => none

/-- The end cause of END by its port (R92). -/
def endCauseOf : Port → EndCause
  | .meter => .meterEnd
  | .survey => .surveyEnd

/-- The end cause of ABANDON by its port (R92). -/
def abandonCauseOf : Port → EndCause
  | .meter => .meterAbandon
  | .survey => .surveyAbandon

/-- The record as END completes it, before the loop engine (R82, steps 1 to 3). -/
def State.endedRecord (s : State) (p : Port) (r : Record) : Record :=
  { r with
    state := .ended
    stop := some s.clock.value
    cause := endCauseOf p
    result := stationResult s.occ.sums s.occ.counts
    quality := r.quality.ended s.occ.sums s.store.work.settle.minCount }

/-- END would form a closing tie while the closure queue holds 4 entries (R79, check 4). -/
def State.queueBlocks (s : State) (r : Record) : Bool :=
  r.kind == .base && decide (s.store.work.settle.minCount ≤ s.occ.sums.n) && s.loop.opening.isSome &&
    decide (4 ≤ s.queue.length)

/-- The occupation controller returned to NONE (R60). -/
def State.idleOccupation (s : State) : State := s.setOcc s.occ.idle

/-- An accepted END, in the order of R82. DESIGN CHOICE (log 29): the live reading stays (R36), also where R41 has NONE say that the
displayed sample was not accumulated. -/
def State.endAccepted (s : State) (p : Port) (r : Record) : State :=
  ((s.reduceEnded (s.endedRecord p r)).raise .occEnded).idleOccupation

/-- END (R79, R82). Where the log holds no active record, no occupation is active (R61, log 10). -/
def opEnd (p : Port) (s : State) : Served :=
  if !s.inSurvey then refuse s .state
  else
    match s.activeRecord with
    | none => refuse s .idle
    | some r => if s.queueBlocks r then refuse s .queueFull else accept (s.endAccepted p r) (.completed r.seq)

/-- The record as ABANDON completes it (R83). DESIGN CHOICE (log 23): R84 gives the same record in either order apart from LOSS;
the model follows R70 and R83, by which a flagged sample taken first leaves its flag, and R13, by which a boundary taken first gives
a later end time. -/
def State.abandonedRecord (s : State) (p : Port) (r : Record) : Record :=
  { r with state := .abandoned, stop := some s.clock.value, cause := abandonCauseOf p }

/-- An accepted ABANDON (R83). The live reading stays, as at an END (DESIGN CHOICE, log 29). -/
def State.abandonAccepted (s : State) (p : Port) (r : Record) : State :=
  ((s.putRecord (s.abandonedRecord p r)).raise .occAbandoned).idleOccupation

/-- ABANDON (R83). -/
def opAbandon (p : Port) (s : State) : Served :=
  if !s.inSurvey then refuse s .state
  else
    match s.activeRecord with
    | none => refuse s .idle
    | some r => accept (s.abandonAccepted p r) (.completed r.seq)

end Sys2Proof.Machine
end

