-- ==== Sys2Proof/Machine/Ports.lean ====
section
/-! DEFINITION. Events, masks and the ports' own steps (Chapter 9) that need no frame: READ EVENTS, SET MASK, READ MASK,
CSN_FALL, METER_FRAME_DISCARD, INTER_BYTE_TIMEOUT, RESPONSE_SENT, OPERATION_ANSWER. -/

namespace Sys2Proof.Machine

/-- READ EVENTS (R166): the set is returned whole and its events removed. -/
def opReadEvents (p : Port) (s : State) : Served := accept (s.setEvents p 0) (.word (s.events p))

/-- The mask a payload sets: reserved bits are ignored (R165). -/
def maskOf (w : U16) : U16 := w &&& allEvents

/-- SET MASK (R165). -/
def opSetMask (p : Port) (w : U16) (s : State) : Served := accept (s.setMask p (maskOf w)) (.word (maskOf w))

/-- READ MASK (R165). -/
def opReadMask (p : Port) (s : State) : Served := accept s (.word (s.mask p))

/-- CSN_FALL (R157). DESIGN CHOICE (log 26): while RESETn is held low a fall of CSn changes neither the slot nor MISO; the manual says
only that frames are not received (R138). -/
def execCsnFall (clocked : Nat) (s : State) : Host.Outcome State Fault Refusal :=
  .next (if s.receiving then s.csFall clocked else s)

/-- The transaction in progress began with the slot in TAKING (R157). -/
def MeterPort.discards (m : MeterPort) : Bool :=
  match m.txn with
  | some t => t.discard
  | none => false

/-- METER_FRAME_DISCARD (R157): CSn rises on a transaction that began in TAKING; what it carried is not examined and gets no
response. DESIGN CHOICE (log 5): no such event occurs in a transaction that did not begin in TAKING, nor with none in progress,
where the command changes nothing. -/
def execMeterFrameDiscard (s : State) : Host.Outcome State Fault Refusal :=
  .next (if s.receiving && s.meter.discards then s.csRise else s)

/-- The inter-byte timer expires (R159): a partial frame in RECEIVE is answered FRAME, with type byte 0x00 where it was not
received (R160); in DISCARD it is dropped. -/
def State.timeOut (s : State) : State :=
  let s1 := s.setUart s.uart.hunting
  match s.uart.rx with
  | .receive => s1.setOut (some { code := (s.uart.buf[1]?).getD 0, reply := plain .frame, sending := true })
  | .discard => s1
  | .hunt => s1

/-- INTER_BYTE_TIMEOUT (R159). DESIGN CHOICE (log 26): the timer does not expire while RESETn is held low; the manual does not say. -/
def execInterByteTimeout (s : State) : Host.Outcome State Fault Refusal :=
  .next (if s.receiving && s.uart.timer then s.timeOut else s)

/-- The response in transmission has been sent (R160). -/
def State.responseSent (s : State) : State :=
  match s.uart.out with
  | some o =>
    if o.sending then (s.setOut none).setPins { s.pins with txd := surveyFrame o.code o.reply } else s
  | none => s

/-- RESPONSE_SENT (R160). DEDUCED (log 12): a response goes on being sent while RESETn is merely held low. -/
def execResponseSent (s : State) : Host.Outcome State Fault Refusal := .next (if s.powered then s.responseSent else s)

/-- The operation gives its answer (R157, R160): the meter port's slot goes from TAKING to HOLDING, the survey port starts the
response. -/
def State.answer (s : State) (p : Port) : State :=
  match p with
  | .meter =>
    match s.meter.slot with
    | .taking r => s.setSlot (.holding r)
    | .idle => s
    | .holding _ => s
  | .survey =>
    match s.uart.out with
    | some o => s.setOut (some { o with sending := true })
    | none => s

/-- OPERATION_ANSWER (R157, R160). DEDUCED (log 12): an answer still due is given while RESETn is merely held low. -/
def execOperationAnswer (p : Port) (s : State) : Host.Outcome State Fault Refusal :=
  .next (if s.powered then s.answer p else s)

end Sys2Proof.Machine
end

