-- ==== Sys2Proof/Machine/Store.lean ====
section
/-! DEFINITION. The constants store (Chapter 8): items, COMMIT and its block writes, DISCARD, the digest, the reload. -/

namespace Sys2Proof.Machine

/-! ## Items -/

/-- The port that may write a block (R148, check 3). -/
def writablePort : Block → Port
  | .cal => .meter
  | .sensor => .meter
  | .tide => .survey
  | .settle => .survey
  | .loop => .survey

/-- A whole item written into the working copy, its block dirty (R148). -/
def Store.write (t : Store) (b : Block) (item : Nat) (v : ItemValue) : Store :=
  { t with work := t.work.write item v, dirty := t.dirty.set b true }

/-- WRITE ITEM (R148): the checks in their order. -/
def opWriteItem (p : Port) (w : ItemWrite) (s : State) : Served :=
  match writtenBlock w with
  | none => refuse s .range
  | some b =>
    if p ≠ writablePort b then refuse s .denied
    else if s.inSurvey then refuse s .state
    else if s.store.commit.isSome then refuse s .busy
    else
      match acceptedValue w with
      | none => refuse s .range
      | some v => accept (s.setStore (s.store.write b (writtenItem w) v)) .empty

/-- The payload length of a WRITE ITEM: block, item and the item's image (R161); two bytes where no such item exists, one where no
item is named. -/
def writeItemLength (w : ItemWrite) : Nat := (encodeItem w).length

/-- READ ITEM (R149): an item the working copy does not hold is answered RANGE. -/
def opReadItem (block item : Byte) (s : State) : Served :=
  match blockOf block, s.store.work.read block item with
  | some b, some v => accept s (.item block item (s.store.dirty.get b) (s.store.defaulted.get b) v)
  | _, _ => refuse s .range

/-! ## Images (R150) -/

/-- The CAL image where it is valid. -/
def Images.validCal (i : Images) : Option CalBlock := i.cal.filter CalBlock.inRange
/-- The SENSOR image where it is valid. -/
def Images.validSensor (i : Images) : Option SensorBlock := i.sensor.filter fun v => (ItemValue.sensor v).inRange
/-- The TIDE image where it is valid. -/
def Images.validTide (i : Images) : Option TideBlock := i.tide.filter TideBlock.inRange
/-- The SETTLE image where it is valid. -/
def Images.validSettle (i : Images) : Option SettleBlock := i.settle.filter fun v => (ItemValue.settle v).inRange
/-- The LOOP image where it is valid. -/
def Images.validLoop (i : Images) : Option LoopBlock := i.loop.filter fun v => (ItemValue.loop v).inRange

/-- The constants the images hold: a valid image's values, factory defaults for an invalid one (R154, R155, R156). -/
def Images.constants (i : Images) : Constants :=
  { cal := i.validCal.getD .factory, sensor := i.validSensor.getD .factory, tide := i.validTide.getD .factory,
    settle := i.validSettle.getD .factory, loop := i.validLoop.getD .factory }

/-- The blocks whose image is invalid (R154, R156). -/
def Images.invalid (i : Images) : PerBlock Bool :=
  { cal := i.validCal.isNone, sensor := i.validSensor.isNone, tide := i.validTide.isNone, settle := i.validSettle.isNone,
    loop := i.validLoop.isNone }

/-- A block's image made invalid: a write begins, or content is lost (R150, R152). -/
def Images.spoil (i : Images) : Block → Images
  | .cal => { i with cal := none }
  | .sensor => { i with sensor := none }
  | .tide => { i with tide := none }
  | .settle => { i with settle := none }
  | .loop => { i with loop := none }

/-- A block's image written whole from the working copy (R152). -/
def Images.write (i : Images) (c : Constants) : Block → Images
  | .cal => { i with cal := some c.cal }
  | .sensor => { i with sensor := some c.sensor }
  | .tide => { i with tide := some c.tide }
  | .settle => { i with settle := some c.settle }
  | .loop => { i with loop := some c.loop }

/-- The working copy of a block equals its valid image (R152). -/
def Images.holds (i : Images) (c : Constants) : Block → Bool
  | .cal => i.validCal == some c.cal
  | .sensor => i.validSensor == some c.sensor
  | .tide => i.validTide == some c.tide
  | .settle => i.validSettle == some c.settle
  | .loop => i.validLoop == some c.loop

/-! ## Committing -/

/-- A block passes validation (R151, check 5): its fields in range, and CAL coherent. -/
def Constants.valid (c : Constants) : Block → Bool
  | .cal => c.cal.inRange && c.cal.coherent
  | .sensor => (ItemValue.sensor c.sensor).inRange
  | .tide => c.tide.inRange
  | .settle => (ItemValue.settle c.settle).inRange
  | .loop => (ItemValue.loop c.loop).inRange

/-- The blocks to be committed: dirty or DEFAULTED, in block order (R151). -/
def Store.toCommit (t : Store) : List Block := blockOrder.filter fun b => t.dirty.get b || t.defaulted.get b

/-- A commit completes (R153): `wrote` says whether it wrote a block. -/
def State.commitDone (s : State) (wrote : Bool) : State :=
  ((s.setStore { s.store with commit := none, computing := s.store.computing || wrote }).raise .commitDone).leaveUnset

/-- A block found equal: its dirty mark is cleared (R152). -/
def Store.unchanged (t : Store) (b : Block) : Store := { t with dirty := t.dirty.set b false }

/-- A block written: both its marks are cleared (R152). -/
def Store.written (t : Store) (b : Block) : Store :=
  { t with dirty := t.dirty.set b false, defaulted := t.defaulted.set b false }

/-- The blocks still to be committed are examined in order: an equal one is passed, the first that differs is the one to be
written, and with none left the commit completes (R152, R153). Its write begins at once and makes its image invalid, or, where
`waits` says so, has still to begin, and its image stands (R156, log 21). DESIGN CHOICE (log 24): the manual does not say when
within a commit a block is examined; all that one step can reach are examined in that step, so that a commit whose blocks all
equal their images completes in the step that accepts it and is never seen COMMITTING. -/
def State.commitFrom (s : State) (wrote waits : Bool) : List Block → State
  | [] => s.commitDone wrote
  | b :: rest =>
    if s.nv.holds s.store.work b then (s.setStore (s.store.unchanged b)).commitFrom wrote waits rest
    else (if waits then s else s.setNv (s.nv.spoil b)).setStore { s.store with commit := some (b :: rest) }

/-- COMMIT (R151, R152, R153). The first block's write begins as the commit is accepted (section 8.8.2, step 1). -/
def opCommit (s : State) : Served :=
  if s.inSurvey then refuse s .state
  else if s.store.commit.isSome then refuse s .busy
  else if s.store.computing then refuse s .busy
  else
    match s.store.toCommit.find? fun b => !s.store.work.valid b with
    | some b => (s, some { status := .invalid, payload := .invalid b })
    | none => accept (s.commitFrom false false s.store.toCommit) (.blocks s.store.toCommit.length)

/-- The write of the commit's present block completes: its image holds the working copy's values, and the commit goes on
(R152). DESIGN CHOICE (log 21): `pauses` says whether the next write has still to begin behind this step, as R156 has it where a
restart arrives between two block writes; a write that had still to begin begins and completes here. -/
def State.blockWritten (s : State) : State :=
  match s.store.commit with
  | some (b :: rest) =>
    ((s.setNv (s.nv.write s.store.work b)).setStore (s.store.written b)).commitFrom true s.pauses rest
  | _ => s

/-- BLOCK_WRITE_COMPLETE (R152): a write needs the main domain's supply, and goes on while RESETn is held low (DEDUCED, log 12). -/
def execBlockWriteComplete (s : State) : Host.Outcome State Fault Refusal :=
  .next (if s.mainLive then s.blockWritten else s)

/-! ## Discarding -/

/-- The working copy reloaded from the images: DEFAULTED where an image is invalid, no mark dirty (R154, R156). -/
def Store.reload (t : Store) (i : Images) : Store :=
  { t with work := i.constants, defaulted := i.invalid, dirty := .all false }

/-- DISCARD (R154). -/
def opDiscard (s : State) : Served :=
  if s.inSurvey then refuse s .state
  else if s.store.commit.isSome then refuse s .busy
  else accept (s.setStore (s.store.reload s.nv)) .empty

/-! ## The digest -/

/-- One bit of the digest's register (R155). -/
def digestBit (reg : U32) (bit : Bool) : U32 :=
  if reg.getLsbD 0 ^^ bit then (reg >>> 1) ^^^ 0xEDB88320#32 else reg >>> 1

/-- One byte of the digest, its bits from least significant to most significant (R155). -/
def digestByte (reg : U32) (b : Byte) : U32 :=
  [0, 1, 2, 3, 4, 5, 6, 7].foldl (fun r i => digestBit r (b.getLsbD i)) reg

/-- The digest of some bytes (R155). -/
def digestOf (bs : List Byte) : U32 := ~~~(bs.foldl digestByte 0xFFFFFFFF#32)

/-- DIGEST_COMPLETE (R155): the value replaced, the state VALID, DIGEST_READY raised. A computation that a restart abandoned
does not complete (R155): the new one begins at stage 3. -/
def execDigestComplete (s : State) : Host.Outcome State Fault Refusal :=
  .next (if s.storeLive && s.store.computing then
      (s.setStore { s.store with digest := digestOf s.nv.constants.image, computing := false }).raise .digestReady
    else s)

/-- READ DIGEST (R155). -/
def opReadDigest (s : State) : Served := accept s (.digest s.store.digest s.store.computing)

/-! ## Loss and reload -/

/-- NV_IMAGE_LOSS (R150): content is lost only while VDD is absent. -/
def execNvImageLoss (b : Block) (s : State) : Host.Outcome State Fault Refusal :=
  .next (if s.supply.vdd then s else s.setNv (s.nv.spoil b))

/-- Stage 3 of a restart (R156): the reload, CLEAN, and a digest computation begun with value 0. -/
def State.reloadConstants (s : State) : State :=
  s.setStore { s.store.reload s.nv with commit := none, digest := 0, computing := true }

end Sys2Proof.Machine
end

