-- ==== Sys2Proof/Machine/Restart.lean ====
section
/-! DEFINITION. Supplies, the reset line and restarts (Chapter 7): VDD_RISE, VDD_FALL, VBAK_FAIL, RESETN_ASSERT, RESETN_RELEASE,
SOFT_RESET, START_UP_STAGE. -/

namespace Sys2Proof.Machine

/-- The cause of a restart that VDD's rise brings about (R138). -/
def State.powerCause (s : State) : Cause := if s.mark then .powerRetained else .powerLost

/-- VDD rises (R138): a restart begins, unless RESETn held low delays it. -/
def State.vddRises (s : State) : State :=
  let s1 := s.setSupply { s.supply with vdd := true }
  if s.supply.resetLow then s1.setSupply { s1.supply with restartDue := true } else s1.beginRestart s.powerCause

/-- VDD_RISE (R138). -/
def execVddRise (s : State) : Host.Outcome State Fault Refusal := .next (if s.supply.vdd then s else s.vddRises)

/-- VDD falls (R137): what the main domain holds from now on is a free value; where VBAK does not hold, both supplies have
failed and the retained domain is lost too. -/
def State.vddFalls (s : State) (vbak : Bool) : State :=
  let g := Config.lostState s.free
  let s1 := s.nextFree.mainFrom g
  let s2 := if vbak then s1 else s1.retainedFrom g
  (s2.setSupply { s.supply with vdd := false, vbak := vbak, restartDue := false }).setStartUp none

/-- VDD_FALL (R137). -/
def execVddFall (vbak : Bool) (s : State) : Host.Outcome State Fault Refusal :=
  .next (if s.supply.vdd then s.vddFalls vbak else s)

/-- VBAK fails (R137): while VDD is absent the retention mark and every retained item are lost; while VDD is present the retained
domain is fed from it (R7). -/
def State.vbakFails (s : State) : State :=
  let s1 := s.setSupply { s.supply with vbak := false }
  if s.supply.vdd then s1 else s1.nextFree.retainedFrom (Config.lostState s.free)

/-- VBAK_FAIL (R137). -/
def execVbakFail (s : State) : Host.Outcome State Fault Refusal := .next s.vbakFails

/-- RESETN_ASSERT (R138): from now on no frame is received and the attention lines are low (`State.receiving`,
`State.attention`). -/
def execResetnAssert (s : State) : Host.Outcome State Fault Refusal :=
  .next (s.setSupply { s.supply with resetLow := true })

/-- RESETn is released (R138): with VDD present a restart begins, RESET_LINE, or as for VDD rising where VDD rose meanwhile. -/
def State.resetReleases (s : State) : State :=
  let s1 := s.setSupply { s.supply with resetLow := false }
  if s.supply.vdd then s1.beginRestart (if s.supply.restartDue then s.powerCause else .resetLine) else s1

/-- RESETN_RELEASE (R138). -/
def execResetnRelease (s : State) : Host.Outcome State Fault Refusal :=
  .next (if s.supply.resetLow then s.resetReleases else s)

/-- SOFT RESET (R138): a restart begins, and there is no response. -/
def opSoftReset (s : State) : Served := (s.beginRestart .soft, none)

/-- Stage 2 (R139, R143): every main-domain item but the constants store's takes its restart value, and BAUDSEL is sampled. -/
def State.resetMain (s : State) (baudsel : Bool) : State :=
  { s with
    meter := .restarted
    uart := .restarted baudsel
    chain := .restarted
    cache := none
    occ := .restarted
    closurePos := none
    pendingPos := none }

/-- The survey state after a restart (R142), from the state found. -/
def restartedState (c : Cause) (found : SurveyState) (noneDefaulted : Bool) : SurveyState :=
  match c, found with
  | .powerLost, _ => .unset
  | _, .unset => .unset
  | _, .ready => if noneDefaulted then .ready else .unset
  | _, .survey => .held
  | _, .held => .held

/-- Stage 4 (R142). -/
def State.adjustSurvey (s : State) : State :=
  s.setSurvey { s.survey with state := restartedState s.survey.lastCause s.survey.state s.noneDefaulted }

/-- Stage 5 (R139, R128): start-up ends, and the head closure entry is taken up. -/
def State.endStartUp (s : State) : State := (s.setClosurePos (closureStart s.queue)).setStartUp none

/-- The next stage of a restart is taken (R139). -/
def State.takeStage (s : State) (baudsel : Bool) : State :=
  match s.startUp with
  | none => s
  | some .mainDomain => (s.resetMain baudsel).setStartUp (some .constants)
  | some .constants => s.reloadConstants.setStartUp (some .surveyState)
  | some .surveyState => s.adjustSurvey.setStartUp (some .finish)
  | some .finish => s.endStartUp

/-- START_UP_STAGE (R139). While RESETn is held low again no stage is taken: its release begins another restart (R138). -/
def execStartUpStage (baudsel : Bool) (s : State) : Host.Outcome State Fault Refusal :=
  .next (if s.receiving then s.takeStage baudsel else s)

end Sys2Proof.Machine
end

