-- ==== Sys2Proof/Machine/LogReads.lean ====
section
/-! DEFINITION. The station log's requests (Chapter 5): READ LOG FROM, READ LOG NEXT, PURGE. -/

namespace Sys2Proof.Machine

/-! ## Reading -/

/-- The records of one response: 1 on the meter port, 3 on the survey port (R101). -/
def recordsPerResponse : Port → Nat
  | .meter => 1
  | .survey => 3

/-- The records from a cursor onward, up to K (R101). -/
def Log.from (l : Log) (c k : Nat) : List Record := (l.records.filter fun r => decide (c ≤ r.seq)).take k

/-- The END indication (R101): the response holds the newest record, or none. -/
def Log.endsWith (l : Log) (rs : List Record) : Bool :=
  rs.isEmpty || (rs.getLast?.map (·.seq) == l.newest.map (·.seq))

/-- The response from a cursor, and the cursor moved past the records returned (R101). -/
def State.readFrom (s : State) (p : Port) (c : Nat) (skipped : Bool) : Served :=
  let rs := s.log.from c (recordsPerResponse p)
  accept (s.setCursor p (some (c + rs.length))) (.records rs (s.log.endsWith rs) skipped)

/-- READ LOG FROM (R99). -/
def opReadLogFrom (p : Port) (q : U32) (s : State) : Served := s.readFrom p (max q.toNat s.log.lowMark) false

/-- READ LOG NEXT (R100). -/
def opReadLogNext (p : Port) (s : State) : Served :=
  match s.cursor p with
  | none => refuse s .noCursor
  | some c => if c < s.log.lowMark then s.readFrom p s.log.lowMark true else s.readFrom p c false

/-! ## Purging -/

/-- A record belongs to a loop of the survey (R91). -/
def Record.belongs (r : Record) (survey k : Nat) : Bool := decide (r.survey = survey) && decide (r.loopNo = k)

/-- The record belongs to the open loop or to a loop in the closure queue (R105). -/
def State.inProtectedLoop (s : State) (r : Record) : Bool :=
  s.inSurvey &&
    ((s.loop.opening.isSome && r.belongs s.survey.number s.loop.counter) ||
      s.queue.any fun e => r.belongs s.survey.number e.loop)

/-- The first stop condition that holds for a record (R105); none: the record is removed. -/
def State.purgeStop (s : State) (q : Nat) (r : Record) : Option StopReason :=
  if q < r.seq then some .limit
  else if r.state = .active then some .active
  else if s.inProtectedLoop r then some .loop
  else none

/-- The records examined from the oldest: those that stay, and the stop reason (R105). -/
def State.purgeScan (s : State) (q : Nat) : List Record → List Record × StopReason
  | [] => ([], .limit)
  | r :: rest =>
    match s.purgeStop q r with
    | some why => (r :: rest, why)
    | none => s.purgeScan q rest

/-- The oldest record's sequence number, 0 where there is none (R104, R106). -/
def oldestSeq (rs : List Record) : Nat := (rs.head?.map (·.seq)).getD 0

/-- The newest record's sequence number, 0 where there is none (R104). -/
def newestSeq (rs : List Record) : Nat := (rs.getLast?.map (·.seq)).getD 0

/-- PURGE (R105, R106). -/
def opPurge (p : Port) (q : U32) (s : State) : Served :=
  match p with
  | .meter => refuse s .denied
  | .survey =>
    let x := s.purgeScan q.toNat s.log.records
    accept (s.setLog { s.log with records := x.1 })
      (.purged (s.log.records.length - x.1.length) (oldestSeq x.1) x.2)

end Sys2Proof.Machine
end

