-- ==== Sys2Proof/Machine/Survey.lean ====
section
/-! DEFINITION. The survey controller's requests (Chapter 7): OPEN SURVEY, CLOSE SURVEY, RESUME, SET LINE, SET POSITION, and
STATUS. -/

namespace Sys2Proof.Machine

/-- The loop engine at an accepted OPEN SURVEY (R114, R132). -/
def State.openLoops (s : State) : State := s.setLoop { counter := 0, opening := none, prediction := none }

/-- OPEN SURVEY (R132). -/
def opOpenSurvey (p : Port) (n : U16) (id : U32) (step : Byte) (s : State) : Served :=
  match p with
  | .meter => refuse s .denied
  | .survey =>
    if s.survey.state ≠ .ready then refuse s .state
    else if !(surveyNumberOk n.toNat && stationOk id.toNat && stepOk step.toInt) then refuse s .range
    else if s.store.state = .committing ∨ s.store.computing = true then refuse s .busy
    else if s.store.state ≠ .clean then refuse s .state
    else
      let c := { s.survey with state := .survey, number := n.toNat, nextId := some id.toNat, step := step.toInt }
      accept ((s.openLoops.setSurvey c).raise .surveyChanged) .empty

/-- The survey state after an accepted CLOSE SURVEY (R133). -/
def State.closedState (s : State) : SurveyState := if s.noneDefaulted then .ready else .unset

/-- CLOSE SURVEY (R133). -/
def opCloseSurvey (p : Port) (s : State) : Served :=
  match p with
  | .meter => refuse s .denied
  | .survey =>
    if !s.inSurvey then refuse s .state
    else if s.occ.isActive then refuse s .active
    else if !s.queue.isEmpty then refuse s .busy
    else accept ((s.closeLoops.setSurvey { s.survey with state := s.closedState }).raise .surveyChanged) .empty

/-- RESUME (R134). -/
def opResume (s : State) : Served :=
  if s.survey.state ≠ .held then refuse s .state
  else if !s.noneDefaulted then refuse s .state
  else if s.store.computing then refuse s .busy
  else accept ((s.setSurvey { s.survey with state := .survey }).raise .surveyChanged) .empty

/-- SET LINE (R135). -/
def opSetLine (p : Port) (id : U32) (step : Byte) (s : State) : Served :=
  match p with
  | .meter => refuse s .denied
  | .survey =>
    if !s.inSurvey then refuse s .state
    else if !(stationOk id.toNat && stepOk step.toInt) then refuse s .range
    else accept (s.setSurvey { s.survey with nextId := some id.toNat, step := step.toInt }) .empty

/-- SET POSITION (R136): indicator 0 NONE, 1 a position, any other RANGE (R161, R163). With NONE there is no position to be
out of range (DEDUCED, log 13). -/
def opSetPosition (p : Port) (ind : Byte) (lat lon : U32) (s : State) : Served :=
  match p with
  | .meter => refuse s .denied
  | .survey =>
    if ind = 0 then accept (s.setPendingPos none) .empty
    else if ind = 1 ∧ (positionOf lat lon).ok = true then accept (s.setPendingPos (some (positionOf lat lon))) .empty
    else refuse s .range

/-- What STATUS returns, from the state as it stands (R104, R130, R163). -/
def State.statusReport (s : State) : StatusReport :=
  { survey := s.survey.state, store := s.store.state, computing := s.store.computing, defaulted := s.store.defaulted,
    cause := s.survey.lastCause, startUp := s.inStartUp, number := s.survey.number, count := s.log.records.length,
    oldest := oldestSeq s.log.records, newest := newestSeq s.log.records, depth := s.queue.length, step := s.survey.step,
    nextId := s.survey.nextId.getD 0, overruns := s.uart.overruns, version := Config.version }

/-- STATUS (R104). -/
def opStatus (s : State) : Served := accept s (.status s.statusReport)

end Sys2Proof.Machine
end

