-- ==== Sys2Proof/Machine/Frames.lean ====
section
/-! DEFINITION. Frames as bytes (R157 to R160): METER_FRAME_REJECT, SURVEY_FRAME_REJECT, SURVEY_FRAME_OVERRUN. Bytes that turn out
to be a good frame are taken as their request (log 6), and `State.arrive` gives a request's row its frame. -/

namespace Sys2Proof.Machine

/-- The status a rejected frame is answered with (R158, R159). -/
def faultStatus : FrameFault → Status
  | .frame => .frame
  | .unknown => .unknown

/-- A request whose frame is complete is taken on its port, where the command is one (R158, R159). -/
def State.serve (s : State) : Instr → State
  | .sample p q r tx ty dT f => s.take p .sample 12 false (opSample p q r tx ty dT f)
  | .readLive p => s.take p .readLive 0 false opReadLive
  | .status p => s.take p .status 0 true opStatus
  | .readClock p => s.take p .readClock 0 false opReadClock
  | .setClock p v => s.take p .setClock 4 false (opSetClock p v)
  | .readEvents p => s.take p .readEvents 0 false (opReadEvents p)
  | .setMask p w => s.take p .setMask 2 false (opSetMask p w)
  | .readMask p => s.take p .readMask 0 false (opReadMask p)
  | .readItem p b i => s.take p .readItem 2 false (opReadItem b i)
  | .writeItem p w => s.take p .writeItem (writeItemLength w) false (opWriteItem p w)
  | .commit p => s.take p .commit 0 false opCommit
  | .discard p => s.take p .discard 0 false opDiscard
  | .readDigest p => s.take p .readDigest 0 false opReadDigest
  | .openSurvey p n id step => s.take p .openSurvey 7 false (opOpenSurvey p n id step)
  | .closeSurvey p => s.take p .closeSurvey 0 false (opCloseSurvey p)
  | .resume p => s.take p .resume 0 false opResume
  | .setLine p id step => s.take p .setLine 5 false (opSetLine p id step)
  | .setPosition p k lat lon => s.take p .setPosition 9 false (opSetPosition p k lat lon)
  | .occupy p k id lat lon => s.take p .occupy 13 false (opOccupy p k id lat lon)
  | .occupyNext p => s.take p .occupyNext 0 false (opOccupyNext p)
  | .endOccupation p => s.take p .endOccupation 0 false (opEnd p)
  | .abandon p => s.take p .abandon 0 false (opAbandon p)
  | .readLogFrom p q => s.take p .readLogFrom 4 false (opReadLogFrom p q)
  | .readLogNext p => s.take p .readLogNext 0 false (opReadLogNext p)
  | .purge p q => s.take p .purge 4 false (opPurge p q)
  | .loadBase p id v => s.take p .loadBase 8 false (opLoadBase p id v)
  | .dropBase p id => s.take p .dropBase 4 false (opDropBase p id)
  | .readBases p id => s.take p .readBases 4 false (opReadBases p id)
  | .softReset p => s.take p .softReset 0 false opSoftReset
  | _ => s

/-! ## The meter port -/

/-- CSn rises and the bytes received are examined (R157, R158). Only so many bytes are received as the transaction clocked. -/
def State.examine (s : State) (bytes : List Byte) : State :=
  let s1 := s.openTxn bytes.length
  match s1.meter.txn with
  | none => s1
  | some t =>
    if t.discard then s1.csRise
    else
      match judgeMeter (bytes.take t.clocked) with
      | .empty => s1.csRise
      | .reject f => s1.csRise.setSlot (.holding (plain (faultStatus f)))
      | .good i => s1.serve i

/-- METER_FRAME_REJECT (R158). -/
def execMeterFrameReject (bytes : List Byte) (s : State) : Host.Outcome State Fault Refusal :=
  .next (if s.receiving then s.examine bytes else s)

/-! ## The survey port -/

/-- The receiver has collected a frame's bytes: its length byte, L bytes, its check byte (R159). -/
def frameComplete (buf : List Byte) : Bool :=
  match buf with
  | l :: _ => decide (buf.length = l.toNat + 2)
  | [] => false

/-- A length byte ends the frame at once: 0 or above 250 (R159). -/
def badLength (l : Byte) : Bool := l = 0 || decide (250 < l.toNat)

/-- The type byte of a response to collected bytes: 0x00 where the type byte was not received (R160). -/
def typeOf (buf : List Byte) : Byte := (buf[1]?).getD 0

/-- A frame ends in RECEIVE and is answered by the port itself (R159). -/
def State.rejectSurvey (s : State) (f : FrameFault) (buf : List Byte) : State :=
  (s.setUart s.uart.hunting).setOut
    (some { code := typeOf buf, reply := plain (faultStatus f), sending := true })

/-- A complete frame in RECEIVE is judged (R159): answered, or taken as its request. -/
def State.judgeFrame (s : State) (buf : List Byte) : State :=
  match judgeSurvey buf with
  | .reject f => s.rejectSurvey f buf
  | .good i => s.serve i
  | .empty => s.setUart s.uart.hunting

/-- The receiver with one byte more in its frame, the inter-byte timer restarted (R159). -/
def SurveyPort.collect (u : SurveyPort) (b : Byte) : SurveyPort := { u with buf := u.buf ++ [b], timer := true }

/-- A byte is received on RXD (R159). The inter-byte timer runs from the sync byte on (DESIGN CHOICE, log 9). -/
def State.receiveByte (s : State) (b : Byte) : State :=
  let buf := s.uart.buf ++ [b]
  match s.uart.rx with
  | .hunt =>
    if b ≠ 0xA5 then s
    else if s.uart.out.isNone then s.setUart { s.uart with rx := .receive, buf := [], timer := true }
    else s.setUart { s.uart.overrun with rx := .discard, buf := [], timer := true }
  | .receive =>
    if s.uart.buf.isEmpty && badLength b then s.rejectSurvey .frame buf
    else if frameComplete buf then s.judgeFrame buf
    else s.setUart (s.uart.collect b)
  | .discard =>
    if s.uart.buf.isEmpty && badLength b then s.setUart s.uart.hunting
    else if frameComplete buf then s.setUart s.uart.hunting
    else s.setUart (s.uart.collect b)

/-- Bytes received one after another; none while RESETn is low or VDD is absent (R138). -/
def State.receiveBytes (s : State) (bytes : List Byte) : State :=
  bytes.foldl (fun s b => if s.receiving then s.receiveByte b else s) s

/-- SURVEY_FRAME_REJECT (R159): these bytes are received. -/
def execSurveyFrameReject (bytes : List Byte) (s : State) : Host.Outcome State Fault Refusal :=
  .next (s.receiveBytes bytes)

/-- The survey port is bound to drop a frame that begins or goes on now (R159). -/
def State.dropsFrames (s : State) : Bool := s.uart.out.isSome || s.uart.rx == .discard

/-- SURVEY_FRAME_OVERRUN (R159): these bytes are received while a request is outstanding. -/
def execSurveyFrameOverrun (bytes : List Byte) (s : State) : Host.Outcome State Fault Refusal :=
  .next (if s.dropsFrames then s.receiveBytes bytes else s)

/-! ## Request rows -/

/-- A request's row: its whole frame arrives on its port (log 6). Where the survey port is in RECEIVE or DISCARD, the frame's bytes,
its sync byte first, are bytes of the frame in progress and of what follows it (R159). -/
def State.arrive (s : State) (i : Instr) : State :=
  if s.uart.rx ≠ .hunt ∧ i.request.any (fun x => x.1 = .survey) then s.receiveBytes (0xA5 :: (encodeFrame i).getD [])
  else s.serve i

end Sys2Proof.Machine
end

