-- ==== Sys2Proof/Machine/Requests.lean ====
section
/-! DEFINITION. The rows of the requests (R161): each is the arrival of its whole frame on its port. The operations themselves stand
with the block that each belongs to, and `State.serve` names them. -/

namespace Sys2Proof.Machine

/-- SAMPLE arrives on a port. -/
def execSample (p : Port) (seq : Byte) (r : U32) (tx ty dT : U16) (flags : Byte) (s : State) : Host.Outcome State Fault Refusal :=
  .next (s.arrive (.sample p seq r tx ty dT flags))

/-- READ LIVE arrives on a port. -/
def execReadLive (p : Port) (s : State) : Host.Outcome State Fault Refusal := .next (s.arrive (.readLive p))

/-- STATUS arrives on a port: taken during start-up too (R144). -/
def execStatus (p : Port) (s : State) : Host.Outcome State Fault Refusal := .next (s.arrive (.status p))

/-- READ CLOCK arrives on a port. -/
def execReadClock (p : Port) (s : State) : Host.Outcome State Fault Refusal := .next (s.arrive (.readClock p))

/-- SET CLOCK arrives on a port. -/
def execSetClock (p : Port) (v : U32) (s : State) : Host.Outcome State Fault Refusal := .next (s.arrive (.setClock p v))

/-- READ EVENTS arrives on a port. -/
def execReadEvents (p : Port) (s : State) : Host.Outcome State Fault Refusal := .next (s.arrive (.readEvents p))

/-- SET MASK arrives on a port. -/
def execSetMask (p : Port) (w : U16) (s : State) : Host.Outcome State Fault Refusal := .next (s.arrive (.setMask p w))

/-- READ MASK arrives on a port. -/
def execReadMask (p : Port) (s : State) : Host.Outcome State Fault Refusal := .next (s.arrive (.readMask p))

/-- READ ITEM arrives on a port. -/
def execReadItem (p : Port) (block item : Byte) (s : State) : Host.Outcome State Fault Refusal :=
  .next (s.arrive (.readItem p block item))

/-- WRITE ITEM arrives on a port. -/
def execWriteItem (p : Port) (w : ItemWrite) (s : State) : Host.Outcome State Fault Refusal := .next (s.arrive (.writeItem p w))

/-- COMMIT arrives on a port. -/
def execCommit (p : Port) (s : State) : Host.Outcome State Fault Refusal := .next (s.arrive (.commit p))

/-- DISCARD arrives on a port. -/
def execDiscard (p : Port) (s : State) : Host.Outcome State Fault Refusal := .next (s.arrive (.discard p))

/-- READ DIGEST arrives on a port. -/
def execReadDigest (p : Port) (s : State) : Host.Outcome State Fault Refusal := .next (s.arrive (.readDigest p))

/-- OPEN SURVEY arrives on a port. -/
def execOpenSurvey (p : Port) (n : U16) (id : U32) (step : Byte) (s : State) : Host.Outcome State Fault Refusal :=
  .next (s.arrive (.openSurvey p n id step))

/-- CLOSE SURVEY arrives on a port. -/
def execCloseSurvey (p : Port) (s : State) : Host.Outcome State Fault Refusal := .next (s.arrive (.closeSurvey p))

/-- RESUME arrives on a port. -/
def execResume (p : Port) (s : State) : Host.Outcome State Fault Refusal := .next (s.arrive (.resume p))

/-- SET LINE arrives on a port. -/
def execSetLine (p : Port) (id : U32) (step : Byte) (s : State) : Host.Outcome State Fault Refusal :=
  .next (s.arrive (.setLine p id step))

/-- SET POSITION arrives on a port. -/
def execSetPosition (p : Port) (ind : Byte) (lat lon : U32) (s : State) : Host.Outcome State Fault Refusal :=
  .next (s.arrive (.setPosition p ind lat lon))

/-- OCCUPY arrives on a port. -/
def execOccupy (p : Port) (kind : Byte) (id lat lon : U32) (s : State) : Host.Outcome State Fault Refusal :=
  .next (s.arrive (.occupy p kind id lat lon))

/-- OCCUPY NEXT arrives on a port. -/
def execOccupyNext (p : Port) (s : State) : Host.Outcome State Fault Refusal := .next (s.arrive (.occupyNext p))

/-- END arrives on a port. -/
def execEndOccupation (p : Port) (s : State) : Host.Outcome State Fault Refusal := .next (s.arrive (.endOccupation p))

/-- ABANDON arrives on a port. -/
def execAbandon (p : Port) (s : State) : Host.Outcome State Fault Refusal := .next (s.arrive (.abandon p))

/-- READ LOG FROM arrives on a port. -/
def execReadLogFrom (p : Port) (q : U32) (s : State) : Host.Outcome State Fault Refusal := .next (s.arrive (.readLogFrom p q))

/-- READ LOG NEXT arrives on a port. -/
def execReadLogNext (p : Port) (s : State) : Host.Outcome State Fault Refusal := .next (s.arrive (.readLogNext p))

/-- PURGE arrives on a port. -/
def execPurge (p : Port) (q : U32) (s : State) : Host.Outcome State Fault Refusal := .next (s.arrive (.purge p q))

/-- LOAD BASE arrives on a port. -/
def execLoadBase (p : Port) (id value : U32) (s : State) : Host.Outcome State Fault Refusal :=
  .next (s.arrive (.loadBase p id value))

/-- DROP BASE arrives on a port. -/
def execDropBase (p : Port) (id : U32) (s : State) : Host.Outcome State Fault Refusal := .next (s.arrive (.dropBase p id))

/-- READ BASES arrives on a port. -/
def execReadBases (p : Port) (start : U32) (s : State) : Host.Outcome State Fault Refusal :=
  .next (s.arrive (.readBases p start))

/-- SOFT RESET arrives on a port. -/
def execSoftReset (p : Port) (s : State) : Host.Outcome State Fault Refusal := .next (s.arrive (.softReset p))

end Sys2Proof.Machine
end

