-- ==== Sys2Proof/Machine/Dispatch.lean ====
section
/-! DEFINITION. `exec`: one arm per command, each one direct call of its meaning. -/

namespace Sys2Proof.Machine

def exec (i : Instr) (s : State) : Host.Outcome State Fault Refusal :=
  match i with
  | .sample p q r tx ty dT f => Sys2Proof.Machine.execSample p q r tx ty dT f s
  | .readLive p => Sys2Proof.Machine.execReadLive p s
  | .status p => Sys2Proof.Machine.execStatus p s
  | .readClock p => Sys2Proof.Machine.execReadClock p s
  | .setClock p v => Sys2Proof.Machine.execSetClock p v s
  | .readEvents p => Sys2Proof.Machine.execReadEvents p s
  | .setMask p w => Sys2Proof.Machine.execSetMask p w s
  | .readMask p => Sys2Proof.Machine.execReadMask p s
  | .readItem p b item => Sys2Proof.Machine.execReadItem p b item s
  | .writeItem p w => Sys2Proof.Machine.execWriteItem p w s
  | .commit p => Sys2Proof.Machine.execCommit p s
  | .discard p => Sys2Proof.Machine.execDiscard p s
  | .readDigest p => Sys2Proof.Machine.execReadDigest p s
  | .openSurvey p n id step => Sys2Proof.Machine.execOpenSurvey p n id step s
  | .closeSurvey p => Sys2Proof.Machine.execCloseSurvey p s
  | .resume p => Sys2Proof.Machine.execResume p s
  | .setLine p id step => Sys2Proof.Machine.execSetLine p id step s
  | .setPosition p k lat lon => Sys2Proof.Machine.execSetPosition p k lat lon s
  | .occupy p k id lat lon => Sys2Proof.Machine.execOccupy p k id lat lon s
  | .occupyNext p => Sys2Proof.Machine.execOccupyNext p s
  | .endOccupation p => Sys2Proof.Machine.execEndOccupation p s
  | .abandon p => Sys2Proof.Machine.execAbandon p s
  | .readLogFrom p q => Sys2Proof.Machine.execReadLogFrom p q s
  | .readLogNext p => Sys2Proof.Machine.execReadLogNext p s
  | .purge p q => Sys2Proof.Machine.execPurge p q s
  | .loadBase p id v => Sys2Proof.Machine.execLoadBase p id v s
  | .dropBase p id => Sys2Proof.Machine.execDropBase p id s
  | .readBases p id => Sys2Proof.Machine.execReadBases p id s
  | .softReset p => Sys2Proof.Machine.execSoftReset p s
  | .meterFrameReject bytes => Sys2Proof.Machine.execMeterFrameReject bytes s
  | .meterFrameDiscard => Sys2Proof.Machine.execMeterFrameDiscard s
  | .csnFall clocked => Sys2Proof.Machine.execCsnFall clocked s
  | .surveyFrameReject bytes => Sys2Proof.Machine.execSurveyFrameReject bytes s
  | .surveyFrameOverrun bytes => Sys2Proof.Machine.execSurveyFrameOverrun bytes s
  | .interByteTimeout => Sys2Proof.Machine.execInterByteTimeout s
  | .responseSent => Sys2Proof.Machine.execResponseSent s
  | .secondBoundary => Sys2Proof.Machine.execSecondBoundary s
  | .gapExpiry => Sys2Proof.Machine.execGapExpiry s
  | .liveReadingStale => Sys2Proof.Machine.execLiveReadingStale s
  | .closureStep => Sys2Proof.Machine.execClosureStep s
  | .blockWriteComplete => Sys2Proof.Machine.execBlockWriteComplete s
  | .digestComplete => Sys2Proof.Machine.execDigestComplete s
  | .vddRise => Sys2Proof.Machine.execVddRise s
  | .vddFall vbak => Sys2Proof.Machine.execVddFall vbak s
  | .vbakFail => Sys2Proof.Machine.execVbakFail s
  | .resetnAssert => Sys2Proof.Machine.execResetnAssert s
  | .resetnRelease => Sys2Proof.Machine.execResetnRelease s
  | .nvImageLoss b => Sys2Proof.Machine.execNvImageLoss b s
  | .startUpStage baudsel => Sys2Proof.Machine.execStartUpStage baudsel s
  | .operationAnswer p => Sys2Proof.Machine.execOperationAnswer p s

end Sys2Proof.Machine
end

