-- ==== Sys2Proof/WellFormed.lean ====
section
/-! DEFINITION. Which commands are events of the part: a request's fields fit their widths by their types, so what is left to
check is that an item a WRITE ITEM names is named as R163 numbers it, and that the bytes of a frame row are the bytes of such
a frame. The meanings are total and do not rest on it. -/

namespace Sys2Proof

/-- The item is named by its own constructor, with a number R163 gives it; `absent` only for a pair that names no item,
`absentBlock` only for a block that does not exist. -/
def ItemWrite.wellFormed : ItemWrite → Bool
  | .calInterval i _ _ => decide (i.toNat < 80)
  | .constituent k _ _ _ _ => decide (k.toNat < 16)
  | .absent block item => (itemLength block item).isNone
  | .absentBlock block => !blockExists block
  | _ => true

/-- The verdict rejects the frame. -/
def Verdict.rejects : Verdict → Bool
  | .reject _ => true
  | _ => false

/-- The command is one that its row of the table describes. -/
def Instr.wellFormed : Instr → Bool
  | .writeItem _ w => w.wellFormed
  | .meterFrameReject bytes => (judgeMeter bytes).rejects
  | .csnFall clocked => decide (0 < clocked)
  | .surveyFrameReject bytes => bytes.head? == some 0xA5
  | .surveyFrameOverrun bytes => bytes.head? == some 0xA5
  | _ => true

end Sys2Proof
end

