-- ==== Sys2Proof/Safety.lean ====
section
/-! DEFINITION. The terms in which claims about the part are stated: a port ready to take a request, a request answered, and the
invariants that the rules ask of every state. The step keeps each invariant; State.reset has it. -/

namespace Sys2Proof

/-! ## Kinds of commands -/

/-- STATUS alone is taken during start-up as at any other time (R144). -/
def Instr.alwaysTaken : Instr → Bool
  | .status _ => true
  | _ => false

/-- The command is a byte, a frame or a transaction at a port (and no whole request). -/
def Instr.isFrame : Instr → Bool
  | .meterFrameReject _ => true
  | .meterFrameDiscard => true
  | .csnFall _ => true
  | .surveyFrameReject _ => true
  | .surveyFrameOverrun _ => true
  | .interByteTimeout => true
  | _ => false

end Sys2Proof

namespace Sys2Proof.Machine

/-! ## Requests -/

/-- A whole request frame of so many payload bytes can reach the part on a port now: frames are received (R138); on the meter port a
transaction is open that did not begin in TAKING and clocks the whole frame (R157, R158); on the survey port no request is
outstanding and no frame is in progress (R159, R160). -/
def State.portOpen (s : State) (p : Port) (payload : Nat) : Bool :=
  s.supply.vdd && !s.supply.resetLow &&
    match p with
    | .meter =>
      match s.meter.txn with
      | some t => !t.discard && decide (payload + 3 ≤ t.clocked)
      | none => false
    | .survey => s.uart.out.isNone && s.uart.rx == .hunt

/-- The same outside start-up: a request taken now is decided by its own rule (R144). -/
def State.portReady (s : State) (p : Port) (payload : Nat) : Bool := s.portOpen p payload && s.startUp.isNone

/-- A request has been taken on a port and its operation will give this answer (R157, R160): the transaction is over and the slot
is in TAKING; or the frame has been collected and the request is outstanding. Nothing else differs. -/
def State.replied (s : State) (p : Port) (r : Req) (a : Response) : State :=
  match p with
  | .meter => { s with meter := { s.meter with txn := none, slot := .taking a } }
  | .survey =>
    { s with uart := { s.uart with
        rx := .hunt
        buf := []
        timer := false
        out := some { code := r.code, reply := a, sending := false } } }

/-- A port itself has answered a frame at once (R144, R157, R160): the slot holds the answer; or the answer is being sent, with
this type byte. Nothing else differs. -/
def State.answeredAtOnce (s : State) (p : Port) (code : Byte) (a : Response) : State :=
  match p with
  | .meter => { s with meter := { s.meter with txn := none, slot := .holding a } }
  | .survey =>
    { s with uart := { s.uart with
        rx := .hunt
        buf := []
        timer := false
        out := some { code := code, reply := a, sending := true } } }

/-- An OK answer. -/
def okAnswer (pl : Payload) : Response := { status := .ok, payload := pl }

/-- A refusal: the status alone (R162). -/
def refusal (st : Status) : Response := { status := st, payload := .empty }

/-! ## Invariants -/

/-- The log's form (R87, R88): at most 512 records, their sequence numbers the unbroken run that ends below the counter. -/
def Log.wf (l : Log) : Prop :=
  l.records.length ≤ 512 ∧ l.records.length < l.counter ∧ l.counter ≤ 4294967296 ∧
    l.records.map (·.seq) = List.range' (l.counter - l.records.length) l.records.length

/-- While the retention mark stands, the log has its form (R87, R88). -/
def State.logInv (s : State) : Prop := s.mark = true → s.log.wf

/-- The clock (R7): an unset clock stands at 0 with its divider at its start; the value has 32 bits, the divider 15. -/
def State.clockInv (s : State) : Prop :=
  s.mark = true →
    (s.clock.isSet = false → s.clock.value = 0 ∧ s.clock.divider = 0) ∧ s.clock.value ≤ 4294967295 ∧
      s.clock.divider < 32768

/-- The base table (R108): at most 24 entries, in increasing order of station id, so no two for one id; every id and value in
range. -/
def State.baseInv (s : State) : Prop :=
  s.mark = true →
    s.bases.length ≤ 24 ∧ s.bases.Pairwise (fun a b => a.id < b.id) ∧
      ∀ e ∈ s.bases, 1 ≤ e.id ∧ e.id ≤ 999999 ∧ -200000000 ≤ e.value ∧ e.value ≤ 200000000

/-- The cached latitude factors are those formed from their key (R52). -/
def State.cacheInv (s : State) : Prop :=
  s.mainLive = true → ∀ e, s.cache = some e → e = formEntry e.key

/-- The quiet window (R68, R71): 32 marks, and at most E of them not quiet while SETTLED. An occupation is active only in SURVEY
and outside start-up, so that E cannot change under it. -/
def State.windowInv (s : State) : Prop :=
  s.mainLive = true →
    s.occ.window.length = 32 ∧
    (∀ q, s.occ.state = .settled q → notQuietCount s.occ.window ≤ s.store.work.settle.e) ∧
    (s.occ.state ≠ .none → s.survey.state = .survey ∧ s.startUp = none)

/-- The closure queue (R122): at most 4 entries, in strictly increasing loop number, each below the loop counter; entries only in
SURVEY or HELD, and none while a POWER_LOST restart is in progress. -/
def State.queueInv (s : State) : Prop :=
  s.mark = true →
    s.queue.length ≤ 4 ∧ s.queue.Pairwise (fun a b => a.loop < b.loop) ∧ (∀ e ∈ s.queue, e.loop < s.loop.counter) ∧
    (s.queue ≠ [] → s.inSurvey = true) ∧
    (s.startUp.isSome = true → s.survey.lastCause = .powerLost → s.queue = [])

/-- The ACTIVE record (R61): while the main domain holds its own values, a record is ACTIVE exactly when it is the one the
occupation state names, and that one is in the log; while a restart has not yet reset the main domain, none is ACTIVE. -/
def State.activeInv (s : State) : Prop :=
  s.mark = true →
    (s.mainLive = true →
      (∀ r ∈ s.log.records, r.state = .active ↔ s.occ.state.record = some r.seq) ∧
      (∀ q, s.occ.state.record = some q → ∃ r ∈ s.log.records, r.seq = q)) ∧
    (s.powered = true → s.startUp = some .mainDomain → ∀ r ∈ s.log.records, r.state ≠ .active)

/-- Every tie record has its reduced value equal to the adopted value its base has in the table (R111); an ACTIVE base record's id
is in the table (R64, check 6; R110, check 6). -/
def State.tieInv (s : State) : Prop :=
  s.mark = true →
    (∀ r ∈ s.log.records, r.role ≠ .none →
      ∃ e d, findBase s.bases r.station = some e ∧ r.red.figures = some { drift := d, reduced := e.value }) ∧
    (∀ r ∈ s.log.records, r.state = .active → r.role = .none ∧
      (r.kind = .base → (findBase s.bases r.station).isSome = true))

/-- A restart waits only while VDD is present and RESETn is held low (R138). -/
def State.supplyInv (s : State) : Prop :=
  s.supply.restartDue = true → s.supply.vdd = true ∧ s.supply.resetLow = true

/-- The invariants of the log and its records, which hold together (R61, R87, R111, R138). -/
def State.recordInv (s : State) : Prop := s.supplyInv ∧ s.logInv ∧ s.activeInv ∧ s.tieInv

/-- A record with a result and a reduction that is no tie has its reduced value equal to its mean minus its drift (R120, R121,
R124). -/
def Record.reducedWell (r : Record) : Prop :=
  r.role = .none → ∀ res f, r.result = some res → r.red.figures = some f → f.reduced = res.mean - f.drift

/-- Every record of the log is reduced so. -/
def State.reducedInv (s : State) : Prop := s.mark = true → ∀ r ∈ s.log.records, r.reducedWell

/-- Every field of the working copy lies within its accepted range (R148, R154, R156). -/
def Constants.inRange (c : Constants) : Prop :=
  c.cal.inRange = true ∧ (ItemValue.sensor c.sensor).inRange = true ∧ c.tide.inRange = true ∧
    (ItemValue.settle c.settle).inRange = true ∧ (ItemValue.loop c.loop).inRange = true

/-- Two sets of constants agree in a block. -/
def Constants.agree (c d : Constants) : Block → Prop
  | .cal => c.cal = d.cal
  | .sensor => c.sensor = d.sensor
  | .tide => c.tide = d.tide
  | .settle => c.settle = d.settle
  | .loop => c.loop = d.loop

/-- The working copy is in range, and a block that is not dirty is what its image holds, or the factory defaults where the image
is invalid (R146, R152, R155, R156). -/
def State.storeInv (s : State) : Prop :=
  s.storeLive = true →
    s.store.work.inRange ∧ ∀ b, s.store.dirty.get b = false → s.nv.constants.agree s.store.work b

/-- No reserved bit of an event set or mask is set (R163, R164, R165). -/
def State.eventInv (s : State) : Prop :=
  s.mainLive = true → ∀ p, s.events p &&& ~~~allEvents = 0 ∧ s.mask p &&& ~~~allEvents = 0

end Sys2Proof.Machine
end

