-- ==== Sys2Proof/Certificates/Slice0/Obligations.lean ====
section
/-! DEFINITION. The statements for the provers. Each says what a command does by an equation for the whole next state where it
can: the right side is the state before with the fields the rules change, and so says the frame too. -/

section

open Sys2Proof Sys2Proof.Machine

/-! ## The machine -/

/-- A step takes the command at the front of the queue and runs it on the state with the queue's rest. -/
def Obligations.StepRunsTheFrontCommand : Prop :=
  ∀ (c : Instr) (rest : List Instr) (s : State),
    step { s with pending := c :: rest } = exec c { s with pending := rest }

/-- On an empty queue one period of the crystal passes (section 1.4; the model's choice, log 8): the divider of a clock that runs
counts it, the 32,768th is a second boundary, and a clock that does not run stands. -/
def Obligations.IdleStepIsACrystalPeriod : Prop :=
  ∀ s : State, s.pending = [] →
    ((s.clock.isSet && (s.supply.vdd || s.supply.vbak)) = false → step s = .next s) ∧
    ((s.clock.isSet && (s.supply.vdd || s.supply.vbak)) = true →
      (s.clock.divider + 1 < 32768 →
        step s = .next { s with clock := { s.clock with divider := s.clock.divider + 1 } }) ∧
      (32768 ≤ s.clock.divider + 1 → step s = exec .secondBoundary s))

/-- Every command, in every state, has a next state: none stops the part, and none changes the queue of commands, which is the model's
own (log 14). What the next state is where an event cannot occur is the model's choice (log 5). -/
def Obligations.EveryCommandAnswersNext : Prop :=
  ∀ (c : Instr) (s : State), ∃ t, exec c s = .next t ∧ t.pending = s.pending

/-! ## Reception -/

/-- What the ports do not take. While RESETn is held low or VDD is absent no request and no frame is received, and both attention lines
are low (sections 7.6 and 9.5); that a fall of CSn and the timer's expiry change nothing while RESETn is held low is the model's choice
(log 26). A meter-port request in a transaction that began in TAKING is discarded without response, and one whose
transaction clocks fewer bytes than its frame has is answered FRAME (section 9.1); with no transaction open the request's row stands for
the fall of CSn too (the model's choice, log 6). On the survey port a request is dropped and counted where a request is outstanding, and
where a frame is in progress, in RECEIVE or in DISCARD, its bytes, the sync byte first, are bytes of that frame (section 9.2;
SurveyPortFollowsItsStates says what each does). Nothing else changes, in start-up or outside it. -/
def Obligations.RequestsThatAreNotTaken : Prop :=
  (∀ s : State, s.supply.vdd = false ∨ s.supply.resetLow = true →
    (∀ c : Instr, c.request.isSome = true ∨ c.isFrame = true → exec c s = .next s) ∧
    (∀ p : Port, s.attention p = false)) ∧
  (∀ (s : State) (i : Instr) (r : Req), s.supply.vdd = true → s.supply.resetLow = false →
    let n := (encodePayload i).length + 3
    (i.request = some (.meter, r) →
      (∀ txn, s.meter.txn = some txn →
        (txn.discard = true → exec i s = .next { s with meter := { s.meter with txn := none } }) ∧
        (txn.discard = false → txn.clocked < n → exec i s = .next (s.answeredAtOnce .meter 0 (refusal .frame)))) ∧
      (s.meter.txn = none → ∃ t, exec (.csnFall n) s = .next t ∧ t.meter.txn ≠ none ∧ exec i s = exec i t)) ∧
    (i.request = some (.survey, r) →
      let u : SurveyPort := { s.uart with rx := .hunt, buf := [], timer := false }
      (s.uart.rx ≠ .hunt → ∀ frame, encodeFrame i = some frame → exec i s = exec (.surveyFrameReject (0xA5 :: frame)) s) ∧
      (s.uart.rx = .hunt → s.uart.out ≠ none →
        exec i s = .next { s with uart := { u with
          overruns := if 65535 < s.uart.overruns + 1 then 65535 else s.uart.overruns + 1 } })))

/-- During start-up every request but STATUS is answered BUSY and changes nothing else; STATUS is answered (section 7.7). The meter port's
slot holds BUSY at once (section 9.1); that the survey port begins to send it at once is the model's reading (DEDUCED, log 15). -/
def Obligations.StartUpAnswersBusy : Prop :=
  ∀ (s : State) (i : Instr) (p : Port) (r : Req),
    i.request = some (p, r) → s.portOpen p (encodePayload i).length = true → s.startUp ≠ none →
      (r ≠ .status → exec i s = .next (s.answeredAtOnce p r.code (refusal .busy))) ∧
      (r = .status → ∃ rep, exec i s = .next (s.replied p .status (okAnswer (.status rep))) ∧ rep.startUp = true)

/-- A request that its rule gives to one port is answered DENIED on the other and changes nothing. -/
def Obligations.WrongPortIsDenied : Prop :=
  ∀ (s : State) (i : Instr) (p : Port) (r : Req),
    i.request = some (p, r) → s.portReady p (encodePayload i).length = true →
    (p, r) ∈ [(Port.survey, Req.sample), (.meter, .setClock), (.meter, .openSurvey), (.meter, .closeSurvey),
      (.meter, .setLine), (.meter, .setPosition), (.meter, .occupy), (.meter, .purge), (.meter, .loadBase),
      (.meter, .dropBase)] →
      exec i s = .next (s.replied p r (refusal .denied))

/-! ## Reads -/

/-- READ CLOCK (R12): from either port, in every survey state, the value and the set flag as they stand, 0 with the flag clear from an
unset clock; nothing changes; BUSY during start-up (given at once or later: that is left open here). On the meter port the response of that moment is shifted out in the following
transaction. -/
def Obligations.ReadClockReturnsTheClock : Prop :=
  ∀ (s : State) (p : Port),
    (s.portReady p 0 = true →
      exec (.readClock p) s = .next (s.replied p .readClock (okAnswer (.clock s.clock.value s.clock.isSet))) ∧
      (s.clockInv → s.mark = true → s.clock.isSet = false →
        exec (.readClock p) s = .next (s.replied p .readClock (okAnswer (.clock 0 false))))) ∧
    (s.portOpen p 0 = true → s.startUp ≠ none → ∃ atOnce : Bool,
      exec (.readClock p) s =
        .next (if atOnce then s.answeredAtOnce p Req.readClock.code (refusal .busy)
          else s.replied p .readClock (refusal .busy))) ∧
    (s.portReady .meter 0 = true → s.supply.restartDue = false → ∀ n : Nat, 0 < n →
      ∃ t u w, exec (.readClock .meter) s = .next t ∧ exec (.operationAnswer .meter) t = .next u ∧
        exec (.csnFall n) u = .next w ∧
        w.pins.miso =
          (meterFrame (okAnswer (.clock s.clock.value s.clock.isSet)) ++ List.replicate n 0).take n)

/-- READ LIVE, READ MASK and READ DIGEST return what the part holds and change nothing (sections 2.7.1, 9.5 and 8.6). In NONE too READ LIVE
returns the last taken sample, whether or not it was accumulated before an END (the model's choice where section 2.7.1 disagrees with
sections 2.7 and 4.9, log 29). -/
def Obligations.PlainReadsReturnTheState : Prop :=
  ∀ (s : State) (p : Port), s.portReady p 0 = true →
    exec (.readLive p) s =
      .next (s.replied p .readLive (okAnswer (.live
        { live := s.chain.live, stale := s.chain.stale, lost := s.chain.lost, state := s.occ.state.name,
          run := s.occ.run, notQuiet := s.occ.window.count true, n := s.occ.sums.n,
          mean := if s.occ.sums.n = 0 then none
            else s.occ.sums.first.map fun f => f.v + roundDiv s.occ.sums.sumD s.occ.sums.n }))) ∧
    exec (.readMask p) s = .next (s.replied p .readMask (okAnswer (.word (s.mask p)))) ∧
    exec (.readDigest p) s =
      .next (s.replied p .readDigest (okAnswer (.digest s.store.digest s.store.computing)))

/-- STATUS (R104): at every time, from either port, the log's count and the sequence numbers of its oldest and newest records, both 0
where it is empty; the count is then the newest minus the oldest plus one, or 0. The other figures (section 9.4) come from the block
that holds each. Nothing changes. -/
def Obligations.StatusReportsTheState : Prop :=
  ∀ (s : State) (p : Port), s.portOpen p 0 = true →
    ∃ rep, exec (.status p) s = .next (s.replied p .status (okAnswer (.status rep))) ∧
      rep.count = s.log.records.length ∧
      rep.oldest = (match s.log.records.head? with | some r => r.seq | none => 0) ∧
      rep.newest = (match s.log.records.getLast? with | some r => r.seq | none => 0) ∧
      (s.log.wf → rep.count ≤ 512 ∧
        (rep.count = 0 ∧ rep.oldest = 0 ∧ rep.newest = 0 ∨ 0 < rep.oldest ∧ rep.count + rep.oldest = rep.newest + 1)) ∧
      rep.survey = s.survey.state ∧ rep.computing = s.store.computing ∧ rep.defaulted = s.store.defaulted ∧
      rep.cause = s.survey.lastCause ∧ rep.startUp = s.startUp.isSome ∧ rep.number = s.survey.number ∧
      rep.depth = s.queue.length ∧ rep.step = s.survey.step ∧ rep.nextId = s.survey.nextId.getD 0 ∧
      rep.overruns = s.uart.overruns ∧ rep.version = 1 ∧
      (rep.store = .committing ↔ s.store.commit.isSome = true) ∧
      (rep.store = .clean ↔ s.store.commit = none ∧ ∀ b, s.store.dirty.get b = false)

/-- READ ITEM (R149): from either port, in every survey and store state, the item as the working copy holds it with its block's marks, or
RANGE where no such item exists; nothing changes; BUSY during start-up (given at once or later: that is left open here). -/
def Obligations.ReadItemReturnsTheItem : Prop :=
  (∀ (s : State) (p : Port) (b i : Byte), s.portOpen p 2 = true → s.startUp ≠ none → ∃ atOnce : Bool,
    exec (.readItem p b i) s =
      .next (if atOnce then s.answeredAtOnce p Req.readItem.code (refusal .busy)
        else s.replied p .readItem (refusal .busy))) ∧
  ∀ (s : State) (p : Port) (b i : Byte), s.portReady p 2 = true →
    let k := s.store.work
    let answer := fun (block : Block) (v : ItemValue) =>
      exec (.readItem p b i) s =
        .next (s.replied p .readItem
          (okAnswer (.item b i (s.store.dirty.get block) (s.store.defaulted.get block) v)))
    (b = 1 → i = 0xFF → answer .cal (.calHeader k.cal.n k.cal.tol)) ∧
    (b = 1 → ∀ v, i.toNat < 80 → k.cal.intervals[i.toNat]? = some v → answer .cal (.calInterval v)) ∧
    (b = 2 → i = 0 → answer .sensor (.sensor k.sensor)) ∧
    (b = 3 → i = 0xFF → answer .tide (.tideHeader k.tide.m k.tide.enabled k.tide.delta)) ∧
    (b = 3 → ∀ v, i.toNat < 16 → k.tide.parts[i.toNat]? = some v → answer .tide (.constituent v)) ∧
    (b = 4 → i = 0 → answer .settle (.settle k.settle)) ∧
    (b = 5 → i = 0 → answer .loop (.loop k.loop)) ∧
    ((itemLength b i).isNone = true → exec (.readItem p b i) s = .next (s.replied p .readItem (refusal .range)))

/-- READ BASES returns the entries from a start id on, up to 8 on the meter port and 24 on the survey port, each with its in-use
indication, and says whether the last entry is among them; an entry is in use where the log holds a tie at its id, or the active record
is a BASE occupation of it (section 6.1). -/
def Obligations.ReadBasesPagesTheTable : Prop :=
  ∀ (s : State) (p : Port) (start : U32), s.portReady p 4 = true →
    let found := s.bases.filter fun e => decide (start.toNat ≤ e.id)
    let most := match p with | .meter => 8 | .survey => 24
    let inUse := fun id : Nat =>
      (s.log.records.any fun r => decide (r.role ≠ .none ∧ r.station = id)) ||
        match s.activeRecord with
        | some r => decide (r.kind = .base ∧ r.station = id)
        | none => false
    exec (.readBases p start) s =
      .next (s.replied p .readBases (okAnswer (.bases s.bases.length
        ((found.take most).map fun e => (e, inUse e.id)) (decide (found.length ≤ most)))))

/-! ## Events and masks -/

/-- A raised event enters both event sets and changes nothing else; an attention line of a part that is supplied and out of reset is high
exactly while its set and mask share an event (section 9.5). UNSET is left for READY exactly where the clock is set and no block is
DEFAULTED, with SURVEY_CHANGED raised (section 7.2), and nothing else changes. -/
def Obligations.EventsAndLeavingUnset : Prop :=
  (∀ (s : State) (e : Event) (p : Port),
    s.raise e =
      { s with
        meter := { s.meter with events := s.meter.events ||| 1#16 <<< e.index }
        uart := { s.uart with events := s.uart.events ||| 1#16 <<< e.index } } ∧
    (s.supply.vdd = true → s.supply.resetLow = false → s.startUp ≠ some .mainDomain →
      (s.attention p = true ↔ s.events p &&& s.mask p ≠ 0))) ∧
  (∀ s : State,
    (s.survey.state = .unset → s.clock.isSet = true → (∀ b, s.store.defaulted.get b = false) →
      s.leaveUnset = ({ s with survey := { s.survey with state := .ready } } : State).raise .surveyChanged) ∧
    (¬(s.survey.state = .unset ∧ s.clock.isSet = true ∧ ∀ b, s.store.defaulted.get b = false) → s.leaveUnset = s))

/-- READ EVENTS returns its own port's set and empties it; SET MASK replaces its own port's mask, without the reserved bits, and
answers it (section 9.5). Nothing else changes. -/
def Obligations.EventRequestsTouchTheirOwnPort : Prop :=
  ∀ (s : State) (w : U16),
    (s.portReady .meter 0 = true →
      exec (.readEvents .meter) s =
        .next (({ s with meter := { s.meter with events := 0 } } : State).replied .meter .readEvents
          (okAnswer (.word s.meter.events)))) ∧
    (s.portReady .survey 0 = true →
      exec (.readEvents .survey) s =
        .next (({ s with uart := { s.uart with events := 0 } } : State).replied .survey .readEvents
          (okAnswer (.word s.uart.events)))) ∧
    (s.portReady .meter 2 = true →
      exec (.setMask .meter w) s =
        .next (({ s with meter := { s.meter with mask := w &&& 0x1FFF } } : State).replied .meter .setMask
          (okAnswer (.word (w &&& 0x1FFF))))) ∧
    (s.portReady .survey 2 = true →
      exec (.setMask .survey w) s =
        .next (({ s with uart := { s.uart with mask := w &&& 0x1FFF } } : State).replied .survey .setMask
          (okAnswer (.word (w &&& 0x1FFF)))))

/-! ## The clock -/

/-- SET CLOCK (sections 1.4.1 and 7.2): in UNSET and READY always, in SURVEY and HELD within 2 s, the clock takes the value, is set and
starts a second, CLOCK_SET is raised, and UNSET is left where no block is DEFAULTED; otherwise CLOCK_STEP and nothing changes. -/
def Obligations.SetClockSetsOrRefuses : Prop :=
  ∀ (s : State) (v : U32), s.portReady .survey 4 = true →
    let t := ({ s with clock := { value := v.toNat, isSet := true, divider := 0 } } : State).raise .clockSet
    let open_ := s.survey.state = .survey ∨ s.survey.state = .held
    (open_ → 2 < ((v.toNat : Int) - s.clock.value).natAbs →
      exec (.setClock .survey v) s = .next (s.replied .survey .setClock (refusal .clockStep))) ∧
    ((open_ → ((v.toNat : Int) - s.clock.value).natAbs ≤ 2) →
      (s.survey.state = .unset → (∀ b, s.store.defaulted.get b = false) →
        exec (.setClock .survey v) s =
          .next ((({ t with survey := { s.survey with state := .ready } } : State).raise .surveyChanged).replied
            .survey .setClock (okAnswer .empty))) ∧
      (¬(s.survey.state = .unset ∧ ∀ b, s.store.defaulted.get b = false) →
        exec (.setClock .survey v) s = .next (t.replied .survey .setClock (okAnswer .empty))))

/-- SECOND_BOUNDARY (sections 1.4, 2.7 and 4.7): the clock counts a second up to its maximum and its divider starts again; the
staleness count rises, and marks the reading STALE at the gap limit; the gap counter of an active occupation rises below its limit,
and expires on reaching it. A clock that does not run raises none. Where the main domain does not hold its values the clock alone counts
(DEDUCED, log 17), and while RESETn is merely held low the gap and the staleness count too (DEDUCED, log 12). At a gap limit of 1 a boundary
right after a sample expires the gap (log 22). -/
def Obligations.SecondBoundaryCounts : Prop :=
  ∀ s : State,
    let clock : Clock :=
      { value := if s.clock.value < 4294967295 then s.clock.value + 1 else s.clock.value, isSet := s.clock.isSet,
        divider := 0 }
    let limit := s.store.work.settle.gapLimit
    let n := if 255 < s.occ.staleness + 1 then 255 else s.occ.staleness + 1
    ((s.clock.isSet && (s.supply.vdd || s.supply.vbak)) = false → exec .secondBoundary s = .next s) ∧
    ((s.clock.isSet && (s.supply.vdd || s.supply.vbak)) = true →
      (s.mainLive = false → exec .secondBoundary s = .next { s with clock := clock }) ∧
      (s.mainLive = true → ¬(s.occ.isActive = true ∧ s.occ.gap + 1 = limit) →
        exec .secondBoundary s =
          .next { s with
            clock := clock
            chain := { s.chain with stale := s.chain.stale || decide (limit ≤ n) }
            occ := { s.occ with
              gap := if s.occ.isActive = true ∧ s.occ.gap < limit then s.occ.gap + 1 else s.occ.gap
              staleness := n } }) ∧
      (s.mainLive = true → ∀ q, s.occ.state.record = some q → s.occ.gap + 1 = limit →
        exec .secondBoundary s =
          .next (({ s with
            clock := clock
            chain := { s.chain with stale := true }
            occ := { s.occ with
              state := .settling q
              run := 0
              ref := none
              window := List.replicate 32 false
              gap := limit
              counts := { s.occ.counts with
                gaps := if 255 < s.occ.counts.gaps + 1 then 255 else s.occ.counts.gaps + 1 }
              staleness := n } } : State).raise .gap)))

/-- GAP_EXPIRY and LIVE_READING_STALE are the second boundary at which the gap counter, or the staleness count of a CURRENT reading,
reaches the gap limit: the same next state, with the occupation back in SETTLING and GAP raised, or the reading STALE (DEDUCED, log 7).
At any other moment, where the clock does not run or where the main domain does not hold its values they do nothing (the model's
choice, log 5; DEDUCED, log 17). They occur while RESETn is merely held low too (DEDUCED, log 12), and at a gap limit of 1 a boundary
right after a sample expires the gap (the model's choice, log 22). -/
def Obligations.LimitEventsAreTheirBoundary : Prop :=
  (∀ s : State, (s.clock.isSet && (s.supply.vdd || s.supply.vbak) && s.mainLive) = false →
    exec .gapExpiry s = .next s ∧ exec .liveReadingStale s = .next s) ∧
  ∀ s : State, (s.clock.isSet && (s.supply.vdd || s.supply.vbak) && s.mainLive) = true →
    let limit := s.store.work.settle.gapLimit
    (∀ q, s.occ.state.record = some q → s.occ.gap + 1 = limit →
      ∃ t, exec .gapExpiry s = .next t ∧ exec .secondBoundary s = .next t ∧ t.occ.state = .settling q ∧
        t.occ.gap = limit ∧ t.occ.run = 0 ∧ t.occ.ref = none ∧ t.occ.sums = s.occ.sums ∧
        (∀ p, t.events p = s.events p ||| 8) ∧ t.chain = { s.chain with stale := true }) ∧
    (¬(s.occ.isActive = true ∧ s.occ.gap + 1 = limit) → exec .gapExpiry s = .next s) ∧
    (s.chain.stale = false ∧ limit ≤ min 255 (s.occ.staleness + 1) →
      ∃ t, exec .liveReadingStale s = .next t ∧ exec .secondBoundary s = .next t ∧
        t.chain = { s.chain with stale := true } ∧ t.occ.staleness = min 255 (s.occ.staleness + 1) ∧
        t.clock.divider = 0) ∧
    (¬(s.chain.stale = false ∧ limit ≤ min 255 (s.occ.staleness + 1)) → exec .liveReadingStale s = .next s)

/-! ## Arithmetic -/

/-- round(a / b) is the nearest integer, halves away from zero, odd, of the numerator's sign, and 0 for 0 (R2); the floor and the modulo
are those of R3, with its examples. -/
def Obligations.RoundingIsToNearest : Prop :=
  floorDiv (-7) 2 = -4 ∧ floorDiv (-1) 8 = -1 ∧ modNat (-699051) (2 ^ 24) = 16078165 ∧
  ∀ (a : Int) (b : Nat), 0 < b →
    roundDiv 0 b = 0 ∧ (0 ≤ a → 0 ≤ roundDiv a b) ∧
    2 * (a - b * roundDiv a b).natAbs ≤ b ∧
    (2 * (a - b * roundDiv a b).natAbs = b → a.natAbs < b * (roundDiv a b).natAbs) ∧
    roundDiv (-a) b = -roundDiv a b ∧
    b * floorDiv a b ≤ a ∧ a < b * floorDiv a b + b ∧
    modNat a b < b ∧ (b : Int) ∣ a - modNat a b

/-- The integer square root is the floor of the square root (R4), and the scatter is that of the floored quotient, at most 65,535; it is 0
for fewer than two samples (R81). -/
def Obligations.ScatterIsAFlooredRoot : Prop :=
  isqrt 0 = 0 ∧ isqrt 15 = 3 ∧ isqrt 16 = 4 ∧
  (∀ x : Nat, isqrt x * isqrt x ≤ x ∧ x < (isqrt x + 1) * (isqrt x + 1)) ∧
  (∀ a : Sums, a.n < 2 → a.scatter = 0) ∧
  (∀ a : Sums, 2 ≤ a.n →
    let q := ((a.n : Int) * a.sumD2 - a.sumD * a.sumD).toNat / (a.n * (a.n - 1))
    a.scatter ≤ 65535 ∧ a.scatter * a.scatter ≤ q ∧ (a.scatter < 65535 → q < (a.scatter + 1) * (a.scatter + 1)))

/-! ## Samples -/

/-- SAMPLE (chapter 2): the sequence number is held and the lost samples are counted, the filter steps, the cache is as the evaluation
leaves it at the position in force (the active record's, else the pending position, else the newest record's, else none), and the live
reading is replaced, CURRENT, with every figure its rules give; outside an occupation nothing else changes but the staleness count. -/
def Obligations.SampleIsCorrected : Prop :=
  ∀ (s : State) (seq : Byte) (r : U32) (tx ty dT : U16) (flags : Byte),
    s.portReady .meter 12 = true →
    let k := s.store.work
    let lost := match s.meter.expected with | none => 0 | some h => (((seq.toNat : Int) - h) % 256).toNat - 1
    let used := if k.cal.n * 1000000 - 1 < r.toNat then k.cal.n * 1000000 - 1 else r.toNat
    let v := (k.cal.intervals[used / 1000000]?).getD { g := 0, f := 0 }
    let rx := sampleField tx - k.sensor.ox
    let ry := sampleField ty - k.sensor.oy
    let tf := if s.chain.primed then s.chain.tf + (sampleField dT * 256 - s.chain.tf) / 2 ^ k.sensor.shift
      else sampleField dT * 256
    let position : Option Position :=
      match s.activeRecord with
      | some x => some x.pos
      | none =>
        match s.pendingPos with
        | some x => some x
        | none => s.log.records.getLast?.map fun x => x.pos
    let tide := tideTerm k.tide s.cache position s.clock.isSet s.clock.value
    let cal := v.g + roundDiv ((used % 1000000 : Nat) * v.f) (2 ^ 30)
    let tiltc := clampInt 0 1000000 (roundDiv ((rx * rx + ry * ry) * k.sensor.kt) (2 ^ 24))
    let tempc := clampInt (-1000000) 1000000 (-roundDiv (tf * k.sensor.tc) (2 ^ 24))
    let live : Live :=
      { seq := seq.toNat, time := s.clock.value, raw := r.toNat, interval := used / 1000000, offset := used % 1000000,
        rx := rx, ry := ry, dT := sampleField dT, cal := cal, tiltc := tiltc, tempc := tempc, tidec := tide.tidec,
        v := cal + tiltc + tempc + tide.tidec,
        flags :=
          { range := decide (k.cal.n * 1000000 - 1 < r.toNat)
            tilt := decide (k.sensor.lt < rx.natAbs) || decide (k.sensor.lt < ry.natAbs)
            meter := flags.getLsbD 0
            tideClamp := tide.flags.tideClamp
            tideOff := tide.flags.tideOff
            noClock := tide.flags.noClock
            noPos := tide.flags.noPos } }
    let chain : Chain :=
      { tf := tf, primed := true, live := some live, stale := false,
        lost := if 65535 < s.chain.lost + lost ∧ lost ≠ 0 then 65535 else s.chain.lost + lost }
    ∃ t, exec (.sample .meter seq r tx ty dT flags) s = .next t ∧
      t.chain = chain ∧ t.cache = tide.cache ∧ t.meter.expected = some seq.toNat ∧
      t.meter.slot = .taking (okAnswer .empty) ∧
      (s.occ.state = .none →
        t = ({ s with
          meter := { s.meter with expected := some seq.toNat }
          chain := chain
          cache := tide.cache
          occ := { s.occ with staleness := 0 } } : State).replied .meter .sample (okAnswer .empty))

/-- For each taken sample, with the constants of the working copy: the tilt residuals are exact, lie within 65,534, and set TILT exactly
where one exceeds the limit (R26); tempc is -round(Tf × Tc / 2^24) clamped to 1,000,000 gc, from the Tf that this sample's step has
produced, the first sample after a restart from its own temperature (R30); v is the exact sum of the four terms, lies between
-1,004,000 and 104,003,998 gc, and carries the stamp (R34). -/
def Obligations.SampleTermsFollowTheirRules : Prop :=
  ∀ (s : State) (seq : Byte) (r : U32) (tx ty dT : U16) (flags : Byte),
    s.portReady .meter 12 = true → s.store.work.inRange →
    let k := s.store.work.sensor
    ∃ t l, exec (.sample .meter seq r tx ty dT flags) s = .next t ∧ t.chain.live = some l ∧
      l.rx = sampleField tx - k.ox ∧ l.ry = sampleField ty - k.oy ∧ l.rx.natAbs ≤ 65534 ∧ l.ry.natAbs ≤ 65534 ∧
      (l.flags.tilt = true ↔ k.lt < l.rx.natAbs ∨ k.lt < l.ry.natAbs) ∧
      l.tempc = clampInt (-1000000) 1000000 (-roundDiv (t.chain.tf * k.tc) (2 ^ 24)) ∧
      (k.tc = 0 → l.tempc = 0) ∧ (0 < k.tc → 0 < t.chain.tf → l.tempc ≤ 0) ∧
      (s.chain.primed = false → t.chain.tf = sampleField dT * 256) ∧
      l.v = l.cal + l.tiltc + l.tempc + l.tidec ∧ -1004000 ≤ l.v ∧ l.v ≤ 104003998 ∧ l.time = s.clock.value

/-- The thermal filter's step moves the state towards the sample's temperature and never past it, and keeps it within its range; the first
sample sets it (section 2.4.1). The interpolated drift of a closure lies between the two ties' offsets, and is the offset of the tie at
either end (section 6.6). -/
def Obligations.FilterAndDriftStayBetween : Prop :=
  (∀ (tf dT : Int) (shift : Nat),
    filterStep tf false dT shift = dT * 256 ∧
    (tf ≤ dT * 256 → tf ≤ filterStep tf true dT shift ∧ filterStep tf true dT shift ≤ dT * 256) ∧
    (dT * 256 ≤ tf → dT * 256 ≤ filterStep tf true dT shift ∧ filterStep tf true dT shift ≤ tf) ∧
    (∀ primed, tf.natAbs ≤ 8388352 → dT.natAbs ≤ 32767 → (filterStep tf primed dT shift).natAbs ≤ 8388352)) ∧
  (∀ (e : ClosureEntry) (tm : Nat),
    (e.a.time < e.b.time → tm ≤ e.a.time → finalDrift e tm = e.a.off) ∧
    (e.a.time < e.b.time → e.b.time ≤ tm → finalDrift e tm = e.b.off) ∧
    (e.b.time ≤ e.a.time → finalDrift e tm = e.a.off) ∧
    min e.a.off e.b.off ≤ finalDrift e tm ∧ finalDrift e tm ≤ max e.a.off e.b.off)

/-- SAMPLE in SETTLING (sections 4.5 to 4.7): the quiet test against ref, the run, ref, the gap counter and the window; on the A-th quiet
sample in a row the state becomes SETTLED and SETTLED is raised. The accumulator's sums stand. -/
def Obligations.SampleWhileSettling : Prop :=
  ∀ (s : State) (seq : Byte) (r : U32) (tx ty dT : U16) (flags : Byte) (q : Nat),
    s.portReady .meter 12 = true → s.occ.state = .settling q →
    ∃ t l, exec (.sample .meter seq r tx ty dT flags) s = .next t ∧ t.chain.live = some l ∧
      let lost := match s.meter.expected with | none => 0 | some h => (((seq.toNat : Int) - h) % 256).toNat - 1
      let rejected := l.flags.range || l.flags.tilt || l.flags.meter
      let quiet := match s.occ.ref with
        | some x => !rejected && decide ((l.v - x).natAbs ≤ s.store.work.settle.q)
        | none => false
      let run := if quiet then s.occ.run + 1 else 0
      let settles := decide (run = s.store.work.settle.a)
      t.occ =
        { s.occ with
          state := if settles then .settled q else .settling q
          run := run
          ref := if rejected then s.occ.ref else some l.v
          window := if settles then List.replicate 32 false else s.occ.window.drop 1 ++ [!quiet]
          gap := 0
          counts := { s.occ.counts with loss := s.occ.counts.loss || decide (lost ≠ 0) }
          staleness := 0 } ∧
      (∀ p, t.events p = if settles then s.events p ||| 2 else s.events p) ∧
      t.log = s.log.modify q (fun x => { x with quality := { x.quality with loss := x.quality.loss || decide (lost ≠ 0) } }) ∧
      t.clock = s.clock ∧ t.survey = s.survey ∧ t.bases = s.bases ∧ t.loop = s.loop ∧ t.queue = s.queue ∧
      t.closurePos = s.closurePos ∧ t.pendingPos = s.pendingPos ∧ t.store = s.store ∧ t.nv = s.nv ∧
      t.startUp = s.startUp ∧ t.pending = s.pending

/-- SAMPLE in SETTLED (sections 4.5, 4.6 and 4.8): the sample is accumulated about the first one, passed over where the accumulator is
full, or counted as rejected; it marks the record and the window; and more than E marks that are not quiet lose settle. -/
def Obligations.SampleWhileSettled : Prop :=
  ∀ (s : State) (seq : Byte) (r : U32) (tx ty dT : U16) (flags : Byte) (q : Nat),
    s.portReady .meter 12 = true → s.occ.state = .settled q →
    ∃ t l, exec (.sample .meter seq r tx ty dT flags) s = .next t ∧ t.chain.live = some l ∧
      let lost := match s.meter.expected with | none => 0 | some h => (((seq.toNat : Int) - h) % 256).toNat - 1
      let rejected := l.flags.range || l.flags.tilt || l.flags.meter
      let quiet := match s.occ.ref with
        | some x => !rejected && decide ((l.v - x).natAbs ≤ s.store.work.settle.q)
        | none => false
      let window := s.occ.window.drop 1 ++ [!quiet]
      let loses := decide (s.store.work.settle.e < window.count true)
      let a := s.occ.sums
      let f : First := if a.n = 0 then { v := l.v, t := l.time } else a.first.getD { v := l.v, t := l.time }
      let d := clampInt (-65535) 65535 (l.v - f.v)
      let sums : Sums :=
        if rejected then { a with rejected := if 65535 < a.rejected + 1 then 65535 else a.rejected + 1 }
        else if 65535 ≤ a.n then { a with saturated := true }
        else
          { a with
            n := a.n + 1
            first := some f
            sumD := a.sumD + d
            sumD2 := a.sumD2 + d.natAbs * d.natAbs
            sumT := a.sumT + ((l.time : Int) - f.t)
            wide := a.wide || decide (d ≠ l.v - f.v) }
      t.occ =
        { s.occ with
          state := if loses then .settling q else .settled q
          run := if loses then 0 else s.occ.run
          ref := if rejected then s.occ.ref else some l.v
          window := if loses then List.replicate 32 false else window
          gap := 0
          sums := if loses then Sums.clear else sums
          counts :=
            { s.occ.counts with
              loss := s.occ.counts.loss || decide (lost ≠ 0)
              losses := if loses then (if 255 < s.occ.counts.losses + 1 then 255 else s.occ.counts.losses + 1)
                else s.occ.counts.losses }
          staleness := 0 } ∧
      (∀ p, t.events p = if loses then s.events p ||| 4 else s.events p) ∧
      t.log = s.log.modify q (fun x =>
        { x with
          quality :=
            { x.quality with
              loss := x.quality.loss || decide (lost ≠ 0)
              rangeSeen := x.quality.rangeSeen || l.flags.range
              tiltSeen := x.quality.tiltSeen || l.flags.tilt
              clampSeen := x.quality.clampSeen || l.flags.tideClamp
              tideAbsent := x.quality.tideAbsent || l.flags.tideOff || l.flags.noClock || l.flags.noPos } }) ∧
      t.clock = s.clock ∧ t.survey = s.survey ∧ t.bases = s.bases ∧ t.loop = s.loop ∧ t.queue = s.queue ∧
      t.closurePos = s.closurePos ∧ t.pendingPos = s.pendingPos ∧ t.store = s.store ∧ t.nv = s.nv ∧
      t.startUp = s.startUp ∧ t.pending = s.pending

/-! ## The tide -/

/-- The evaluation (section 3.6): off, clock unset or no position in force gives 0 with its flags and leaves the cache; otherwise the
terms of the constituents in use are summed, scaled by the gravimetric factor, negated after the rounding and clamped to 4,000 gc, and
the cache holds the entry of the position. -/
def Obligations.TideEvaluation : Prop :=
  ∀ (b : TideBlock) (cache : Option CacheEntry) (pos : Option Position) (isSet : Bool) (t : Nat),
    let e := tideTerm b cache pos isSet t
    ((b.enabled = false ∨ b.m = 0 ∨ isSet = false ∨ pos = none) →
      e.tidec = 0 ∧ e.cache = cache ∧ (e.flags.tideOff = true ↔ b.enabled = false ∨ b.m = 0) ∧
      (e.flags.noClock = true ↔ isSet = false) ∧ (e.flags.noPos = true ↔ pos = none) ∧ e.flags.tideClamp = false) ∧
    (∀ p, b.enabled = true → b.m ≠ 0 → isSet = true → pos = some p → (∀ c, cache = some c → c = formEntry c.key) →
      let lam := modNat (roundDiv (p.lon * 16777216) 360000000) 16777216
      let phi := modNat (roundDiv (p.lat * 16777216) 360000000) 16777216
      let sinPhi := cosEntry ((phi / 4096 + 3072) % 4096)
      let cosPhi := cosEntry (phi / 4096)
      let factor := fun species : Nat =>
        if species = 0 then (32767 - 3 * roundDiv (sinPhi * sinPhi) 32768) / 2
        else if species = 1 then clampInt (-32767) 32767 (roundDiv (2 * sinPhi * cosPhi) 32768)
        else roundDiv (cosPhi * cosPhi) 32768
      let sum := ((b.parts.take b.m).map fun c =>
        roundDiv (c.a * factor c.species *
          cosEntry ((c.p + c.f * t % 2 ^ 44 / 2 ^ 20 + c.species * lam) % 2 ^ 24 / 4096)) (2 ^ 30)).sum
      let raw := -roundDiv (sum * b.delta) 16384
      e.tidec = clampInt (-4000) 4000 raw ∧ (e.flags.tideClamp = true ↔ raw < -4000 ∨ 4000 < raw) ∧
      e.flags.tideOff = false ∧ e.flags.noClock = false ∧ e.flags.noPos = false ∧
      ∃ c, e.cache = some c ∧ c.key = p ∧ c.lam = lam ∧ c.phi = phi)

/-- From one second to the next a constituent's phase advances by floor(f / 2^20) or by one more, modulo a turn (section 3.6); and the cosine
table has the symmetries, the bounds and the entries that section 3.2 gives it. -/
def Obligations.TidePhaseAndCosineTable : Prop :=
  (∀ (c : Constituent) (t lam : Nat), c.f < 2 ^ 32 →
    c.phase t lam < 2 ^ 24 ∧
    (c.phase (t + 1) lam = (c.phase t lam + c.f / 2 ^ 20) % 2 ^ 24 ∨
      c.phase (t + 1) lam = (c.phase t lam + c.f / 2 ^ 20 + 1) % 2 ^ 24)) ∧
  (∀ j, 1 ≤ j → j ≤ 4095 → cosEntry (4096 - j) = cosEntry j) ∧
  (∀ j, j ≤ 2047 → cosEntry (j + 2048) = -cosEntry j) ∧
  (∀ j, j ≤ 4095 → -32767 ≤ cosEntry j ∧ cosEntry j ≤ 32767) ∧
  (∀ j, j < 1024 → cosEntry (j + 1) ≤ cosEntry j) ∧
  [0, 12, 296, 512, 671, 728, 1024, 2048, 2560, 3072, 3584, 3800].map cosEntry =
    [32767, 32761, 29447, 23170, 16889, 14372, 0, -32767, -23170, 0, 23170, 29447]

/-! ## Occupations -/

/-- An accepted OCCUPY (section 4.4): a new ACTIVE record, complete in every field, joins the log's newest end; the occupation begins in
SETTLING with everything cleared but the staleness count; a STATION advances the line; LOG_NEAR_FULL is raised by the 480th record.
Nothing else changes. -/
def Obligations.OccupyCreatesARecord : Prop :=
  ∀ (s : State) (code : Byte) (kind : Kind) (id lat lon : U32),
    s.portReady .survey 13 = true → s.survey.state = .survey → s.occ.state = .none →
    s.log.records.length < 512 → s.log.counter < 4294967296 →
    (code = 0 ∧ kind = .station ∨ code = 1 ∧ kind = .base ∧ (s.bases.any fun e => e.id == id.toNat) = true) →
    1 ≤ id.toNat → id.toNat ≤ 999999 → (lat.toInt.natAbs ≤ 90000000) → (lon.toInt.natAbs ≤ 180000000) →
    let record : Record :=
      { seq := s.log.counter, survey := s.survey.number, kind := kind, station := id.toNat,
        pos := { lat := lat.toInt, lon := lon.toInt }, source := .given, digest := s.store.digest,
        loopNo := if s.loop.opening.isSome then s.loop.counter else 0, origin := .survey, start := s.clock.value,
        state := .active, stop := none, cause := .none, result := none,
        quality :=
          { carried := false, loss := false, rangeSeen := false, tiltSeen := false, clampSeen := false,
            tideAbsent := false, short := false, saturated := false, wide := false, tieRejected := false },
        red :=
          { status := .none, figures := none, predicted := false, misclosed := false, long := false, zeroSpan := false },
        role := .none }
    let next := (id.toNat : Int) + s.survey.step
    let t : State :=
      { s with
        log := { records := s.log.records ++ [record], counter := s.log.counter + 1 }
        survey := { s.survey with
          nextId :=
            if kind = .station then (if 1 ≤ next ∧ next ≤ 999999 then some next.toNat else none) else s.survey.nextId }
        occ :=
          { state := .settling s.log.counter, run := 0, ref := none, window := List.replicate 32 false, gap := 0,
            sums := .clear, counts := { gaps := 0, losses := 0, loss := false }, staleness := s.occ.staleness } }
    exec (.occupy .survey code id lat lon) s =
      .next ((if s.log.records.length = 479 then t.raise .logNearFull else t).replied .survey .occupy
        (okAnswer (.created s.log.counter id.toNat kind .given)))

/-- An accepted OCCUPY NEXT (sections 4.4 and 7.4): a STATION record at the next station id, with the pending position, which is consumed,
or else the newest record's position, CARRIED. Nothing else changes but what OCCUPY changes too. -/
def Obligations.OccupyNextContinuesTheLine : Prop :=
  ∀ (s : State) (p : Port) (id : Nat) (pos : Position) (source : Source),
    s.portReady p 0 = true → s.survey.state = .survey → s.occ.state = .none →
    s.log.records.length < 512 → s.log.counter < 4294967296 → s.survey.nextId = some id →
    (s.pendingPos = some pos ∧ source = .given ∨
      s.pendingPos = none ∧ source = .carried ∧ ∃ r, s.log.records.getLast? = some r ∧ r.pos = pos) →
    let record : Record :=
      { seq := s.log.counter, survey := s.survey.number, kind := .station, station := id, pos := pos, source := source,
        digest := s.store.digest, loopNo := if s.loop.opening.isSome then s.loop.counter else 0, origin := p,
        start := s.clock.value, state := .active, stop := none, cause := .none, result := none,
        quality :=
          { carried := source == .carried, loss := false, rangeSeen := false, tiltSeen := false, clampSeen := false,
            tideAbsent := false, short := false, saturated := false, wide := false, tieRejected := false },
        red :=
          { status := .none, figures := none, predicted := false, misclosed := false, long := false, zeroSpan := false },
        role := .none }
    let next := (id : Int) + s.survey.step
    let t : State :=
      { s with
        log := { records := s.log.records ++ [record], counter := s.log.counter + 1 }
        survey := { s.survey with nextId := if 1 ≤ next ∧ next ≤ 999999 then some next.toNat else none }
        pendingPos := none
        occ :=
          { state := .settling s.log.counter, run := 0, ref := none, window := List.replicate 32 false, gap := 0,
            sums := .clear, counts := { gaps := 0, losses := 0, loss := false }, staleness := s.occ.staleness } }
    exec (.occupyNext p) s =
      .next ((if s.log.records.length = 479 then t.raise .logNearFull else t).replied p .occupyNext
        (okAnswer (.created s.log.counter id .station source)))

/-- OCCUPY and OCCUPY NEXT are refused by the first check that fails, in the order of section 4.4, and a refused request changes
nothing. -/
def Obligations.OccupyRefusalsInOrder : Prop :=
  ∀ (s : State) (p : Port) (code : Byte) (id lat lon : U32),
    let full := 512 ≤ s.log.records.length ∨ 4294967296 ≤ s.log.counter
    let listed := (s.bases.any fun e => e.id == id.toNat) = true
    let inRange := (code = 0 ∨ code = 1) ∧ 1 ≤ id.toNat ∧ id.toNat ≤ 999999 ∧ lat.toInt.natAbs ≤ 90000000 ∧
      lon.toInt.natAbs ≤ 180000000
    let first := fun st => exec (.occupy .survey code id lat lon) s = .next (s.replied .survey .occupy (refusal st))
    let second := fun st => exec (.occupyNext p) s = .next (s.replied p .occupyNext (refusal st))
    (s.portReady .survey 13 = true →
      (s.survey.state ≠ .survey → first .state) ∧
      (s.survey.state = .survey → s.occ.state ≠ .none → first .active) ∧
      (s.survey.state = .survey → s.occ.state = .none → full → first .logFull) ∧
      (s.survey.state = .survey → s.occ.state = .none → ¬full → code = 1 → ¬listed → first .noBase) ∧
      (s.survey.state = .survey → s.occ.state = .none → ¬full → (code = 1 → listed) → ¬inRange → first .range)) ∧
    (s.portReady p 0 = true →
      (s.survey.state ≠ .survey → second .state) ∧
      (s.survey.state = .survey → s.occ.state ≠ .none → second .active) ∧
      (s.survey.state = .survey → s.occ.state = .none → full → second .logFull) ∧
      (s.survey.state = .survey → s.occ.state = .none → ¬full → s.survey.nextId = none → second .noId) ∧
      (s.survey.state = .survey → s.occ.state = .none → ¬full → s.survey.nextId ≠ none → s.pendingPos = none →
        s.log.records = [] → second .noPosition))

/-- An accepted END that forms no tie (sections 4.9 and 6.5): the record is completed with the station result, SHORT, SATURATED and WIDE; a
BASE record is TIE_REJECTED; a result is reduced UNTIED, or PROVISIONAL against the open loop's drift. Nothing else changes. -/
def Obligations.EndWithoutATie : Prop :=
  ∀ (s : State) (p : Port) (r : Record),
    s.portReady p 0 = true → (s.survey.state = .survey ∨ s.survey.state = .held) → s.activeRecord = some r →
    (r.kind = .station ∨ s.occ.sums.n < s.store.work.settle.minCount ∨ r.quality.short = true ∨ s.occ.sums.n = 0 ∨
      s.occ.sums.first = none) →
    ¬(r.kind = .base ∧ s.store.work.settle.minCount ≤ s.occ.sums.n ∧ s.loop.opening.isSome = true ∧
      4 ≤ s.queue.length) →
    let a := s.occ.sums
    let k := s.store.work
    let result : Option Result :=
      match a.first with
      | some f =>
        if a.n = 0 then none
        else some
          { n := a.n, rejected := a.rejected, mean := f.v + roundDiv a.sumD a.n,
            time := ((f.t : Int) + roundDiv a.sumT a.n).toNat, scatter := a.scatter, gaps := s.occ.counts.gaps,
            losses := s.occ.counts.losses }
      | none => none
    let reduction : Result → Reduction := fun res =>
      match s.loop.opening with
      | none =>
        { status := .untied, figures := some { drift := 0, reduced := res.mean }, predicted := false, misclosed := false,
          long := false, zeroSpan := false }
      | some tie =>
        let drift := match s.loop.prediction with
          | none => tie.off
          | some pr => tie.off + clampInt (-10000000) 10000000
              (roundDiv (pr.off * clampInt 0 k.loop.ll ((res.time : Int) - tie.time)) pr.dt)
        { status := .provisional, figures := some { drift := drift, reduced := res.mean - drift },
          predicted := s.loop.prediction.isSome, misclosed := false, long := false, zeroSpan := false }
    let done : Record :=
      { r with
        state := .ended
        stop := some s.clock.value
        cause := match p with | .meter => .meterEnd | .survey => .surveyEnd
        result := result
        quality :=
          { r.quality with
            short := r.quality.short || decide (a.n < k.settle.minCount)
            saturated := r.quality.saturated || (decide (1 ≤ a.n) && a.saturated)
            wide := r.quality.wide || (decide (1 ≤ a.n) && a.wide)
            tieRejected := r.kind == .base }
        red := match result with | none => r.red | some res => reduction res }
    exec (.endOccupation p) s =
      .next ((({ s with
        log := { s.log with records := s.log.records.map fun x => if x.seq = r.seq then done else x }
        occ := { Occupation.restarted with staleness := s.occ.staleness } } : State).raise .occEnded).replied p
          .endOccupation (okAnswer (.completed r.seq)))

/-- An accepted END of a BASE occupation that is not SHORT forms a tie (section 6.4): the record is FINAL with drift equal to its offset
from the adopted value and reduced equal to that value. With no loop open it opens the next; with one open it closes that one, queues its
closure, is marked MISCLOSED and LONG from the two ties, leaves the prediction pair, and opens the next. -/
def Obligations.EndFormsATie : Prop :=
  ∀ (s : State) (p : Port) (r : Record) (e : BaseEntry) (f : First),
    s.portReady p 0 = true → (s.survey.state = .survey ∨ s.survey.state = .held) → s.activeRecord = some r →
    r.kind = .base → r.quality.short = false → s.store.work.settle.minCount ≤ s.occ.sums.n → 1 ≤ s.occ.sums.n →
    s.occ.sums.first = some f → s.bases.find? (fun x => x.id == r.station) = some e →
    let a := s.occ.sums
    let k := s.store.work.loop
    let mean := f.v + roundDiv a.sumD a.n
    let time := ((f.t : Int) + roundDiv a.sumT a.n).toNat
    let tie : Tie := { seq := r.seq, time := time, off := mean - e.value }
    let done := fun (flags : Bool × Bool) (role : TieRole) =>
      { r with
        state := .ended
        stop := some s.clock.value
        cause := match p with | .meter => .meterEnd | .survey => .surveyEnd
        result := some
          { n := a.n, rejected := a.rejected, mean := mean, time := time, scatter := a.scatter,
            gaps := s.occ.counts.gaps, losses := s.occ.counts.losses }
        quality := { r.quality with
          saturated := r.quality.saturated || a.saturated
          wide := r.quality.wide || a.wide }
        red :=
          { status := .final, figures := some { drift := tie.off, reduced := e.value }, predicted := false,
            misclosed := flags.1, long := flags.2, zeroSpan := false }
        role := role }
    let log := fun x : Record => { s.log with records := s.log.records.map fun y => if y.seq = r.seq then x else y }
    let occ := { Occupation.restarted with staleness := s.occ.staleness }
    (s.loop.opening = none →
      exec (.endOccupation p) s =
        .next (((({ s with
          log := log (done (false, false) .first)
          loop := { s.loop with counter := s.loop.counter + 1, opening := some tie }
          occ := occ } : State).raise .tieFormed).raise .occEnded).replied p .endOccupation
            (okAnswer (.completed r.seq)))) ∧
    (∀ o, s.loop.opening = some o → s.queue.length < 4 →
      let misclosed := decide (k.limit < (tie.off - o.off).natAbs)
      exec (.endOccupation p) s =
        .next (((({ s with
          log := log (done (misclosed, decide ((k.ll : Int) < (time : Int) - o.time)) .closing)
          queue := s.queue ++ [{ loop := s.loop.counter, a := o, b := tie }]
          closurePos := if s.queue = [] then some (o.seq + 1) else s.closurePos
          loop :=
            { counter := s.loop.counter + 1
              opening := some tie
              prediction :=
                if o.time < time ∧ misclosed = false then some { off := tie.off - o.off, dt := time - o.time }
                else none }
          occ := occ } : State).raise .tieFormed).raise .occEnded).replied p .endOccupation
            (okAnswer (.completed r.seq))))

/-- END and ABANDON are refused by the first check of section 4.9 that fails, and then nothing changes. An accepted ABANDON completes the
record without a result and returns the controller to NONE; the loop engine is not called, and nothing else changes. -/
def Obligations.AbandonAndRefusals : Prop :=
  (∀ (s : State) (p : Port), s.portReady p 0 = true →
    let endAnswers := fun st => exec (.endOccupation p) s = .next (s.replied p .endOccupation (refusal st))
    let abandonAnswers := fun st => exec (.abandon p) s = .next (s.replied p .abandon (refusal st))
    (s.survey.state = .unset ∨ s.survey.state = .ready → endAnswers .state ∧ abandonAnswers .state) ∧
    (s.survey.state = .survey ∨ s.survey.state = .held → s.occ.state = .none → endAnswers .idle ∧ abandonAnswers .idle) ∧
    (∀ r, s.survey.state = .survey ∨ s.survey.state = .held → s.activeRecord = some r → r.kind = .base →
      s.store.work.settle.minCount ≤ s.occ.sums.n → s.loop.opening.isSome = true → 4 ≤ s.queue.length →
      endAnswers .queueFull)) ∧
  (∀ (s : State) (p : Port) (r : Record),
    s.portReady p 0 = true → (s.survey.state = .survey ∨ s.survey.state = .held) → s.activeRecord = some r →
    let done : Record :=
      { r with
        state := .abandoned
        stop := some s.clock.value
        cause := match p with | .meter => .meterAbandon | .survey => .surveyAbandon }
    exec (.abandon p) s =
      .next ((({ s with
        log := { s.log with records := s.log.records.map fun x => if x.seq = r.seq then done else x }
        occ := { Occupation.restarted with staleness := s.occ.staleness } } : State).raise .occAbandoned).replied p
          .abandon (okAnswer (.completed r.seq))))

/-! ## The log -/

/-- READ LOG FROM moves its port's cursor to the start sequence, not below the low mark, and returns the records from there, 1 on the meter
port and up to 3 on the survey port; READ LOG NEXT goes on from the cursor, skipping what has been purged, and is answered NO_CURSOR
where there is none (section 5.4). Nothing but the cursor changes. -/
def Obligations.LogReadsMoveTheCursor : Prop :=
  ∀ (s : State) (p : Port) (q : U32),
    let low := match s.log.records.head? with | some r => r.seq | none => s.log.counter
    let page := fun c => (s.log.records.filter fun r => decide (c ≤ r.seq)).take (match p with | .meter => 1 | .survey => 3)
    let atEnd := fun c => decide (page c = []) || (page c).getLast?.map (·.seq) == s.log.records.getLast?.map (·.seq)
    (s.portReady p 4 = true →
      let c := max q.toNat low
      exec (.readLogFrom p q) s =
        .next ((s.setCursor p (some (c + (page c).length))).replied p .readLogFrom
          (okAnswer (.records (page c) (atEnd c) false)))) ∧
    (s.portReady p 0 = true →
      (s.cursor p = none → exec (.readLogNext p) s = .next (s.replied p .readLogNext (refusal .noCursor))) ∧
      (∀ c0, s.cursor p = some c0 →
        let c := max c0 low
        exec (.readLogNext p) s =
          .next ((s.setCursor p (some (c + (page c).length))).replied p .readLogNext
            (okAnswer (.records (page c) (atEnd c) (decide (c0 < low)))))))

/-- PURGE removes the records from the oldest end, up to the first for which a stop condition holds, and reports the first condition that
held (section 5.5). Nothing else changes. -/
def Obligations.PurgeRemovesFromTheOldest : Prop :=
  ∀ (s : State) (q : U32), s.portReady .survey 4 = true →
    let open_ := s.survey.state = .survey ∨ s.survey.state = .held
    let kept := fun r : Record =>
      q.toNat < r.seq ∨ r.state = .active ∨
        open_ ∧ r.survey = s.survey.number ∧
          (s.loop.opening ≠ none ∧ r.loopNo = s.loop.counter ∨ ∃ e ∈ s.queue, r.loopNo = e.loop)
    ∃ removed rest reason, s.log.records = removed ++ rest ∧ (∀ r ∈ removed, ¬kept r) ∧
      (match rest with
        | [] => reason = .limit
        | r :: _ => kept r ∧
            reason = (if q.toNat < r.seq then .limit else if r.state = .active then .active else .loop)) ∧
      exec (.purge .survey q) s =
        .next (({ s with log := { s.log with records := rest } } : State).replied .survey .purge
          (okAnswer (.purged removed.length (match rest with | r :: _ => r.seq | [] => 0) reason)))

/-! ## The loop engine -/

/-- LOAD BASE adds an entry or replaces an id's value, and DROP BASE removes an entry, where the checks of section 6.1 pass and the table is
in its order (State.baseInv, which every step keeps): the entry is found or gone, every other id keeps its own, and the answer carries the
count; nothing but the table changes. Otherwise the first check that fails gives the answer, and nothing changes. An entry is in use where
the log holds a tie at its id, or the active record is a BASE occupation of it. -/
def Obligations.BaseTableRequests : Prop :=
  (∀ (s : State) (id v : U32),
    s.bases.Pairwise (fun a b => a.id < b.id) → s.survey.state ≠ .unset → 1 ≤ id.toNat → id.toNat ≤ 999999 →
    let look := fun (b : List BaseEntry) (i : Nat) => b.find? fun e => e.id == i
    let used := (∃ r ∈ s.log.records, r.role ≠ .none ∧ r.station = id.toNat) ∨
      ∃ r, s.activeRecord = some r ∧ r.kind = .base ∧ r.station = id.toNat
    (s.portReady .survey 8 = true → v.toInt.natAbs ≤ 200000000 →
      (look s.bases id.toNat = none ∧ s.bases.length < 24 ∨
        (look s.bases id.toNat).isSome = true ∧ ¬used) →
      ∃ b, look b id.toNat = some { id := id.toNat, value := v.toInt } ∧
        (∀ i, i ≠ id.toNat → look b i = look s.bases i) ∧
        b.length = (if look s.bases id.toNat = none then s.bases.length + 1 else s.bases.length) ∧
        exec (.loadBase .survey id v) s =
          .next (({ s with bases := b } : State).replied .survey .loadBase (okAnswer (.baseCount b.length)))) ∧
    (s.portReady .survey 4 = true → (look s.bases id.toNat).isSome = true → ¬used →
      ∃ b, look b id.toNat = none ∧ (∀ i, i ≠ id.toNat → look b i = look s.bases i) ∧
        exec (.dropBase .survey id) s =
          .next (({ s with bases := b } : State).replied .survey .dropBase (okAnswer (.baseCount b.length))))) ∧
  (∀ (s : State) (id v : U32),
    let used := (∃ r ∈ s.log.records, r.role ≠ .none ∧ r.station = id.toNat) ∨
      ∃ r, s.activeRecord = some r ∧ r.kind = .base ∧ r.station = id.toNat
    let listed := (s.bases.any fun e => e.id == id.toNat) = true
    let idOk := 1 ≤ id.toNat ∧ id.toNat ≤ 999999
    let load := fun st => exec (.loadBase .survey id v) s = .next (s.replied .survey .loadBase (refusal st))
    let drop := fun st => exec (.dropBase .survey id) s = .next (s.replied .survey .dropBase (refusal st))
    (s.portReady .survey 8 = true →
      (s.survey.state = .unset → load .state) ∧
      (s.survey.state ≠ .unset → ¬(idOk ∧ v.toInt.natAbs ≤ 200000000) → load .range) ∧
      (s.survey.state ≠ .unset → idOk → v.toInt.natAbs ≤ 200000000 → listed → used → load .inUse) ∧
      (s.survey.state ≠ .unset → idOk → v.toInt.natAbs ≤ 200000000 → ¬listed → 24 ≤ s.bases.length →
        load .tableFull)) ∧
    (s.portReady .survey 4 = true →
      (s.survey.state = .unset → drop .state) ∧
      (s.survey.state ≠ .unset → ¬idOk → drop .range) ∧
      (s.survey.state ≠ .unset → idOk → ¬listed → drop .noBase) ∧
      (s.survey.state ≠ .unset → idOk → listed → used → drop .inUse)))

/-- CLOSURE_STEP (section 6.6): the record at the closure's position, where it is ENDED with a result and no tie role, is reduced FINAL
against the drift interpolated between the two ties, and the position moves on; at the closing tie the entry leaves the queue, the next
one is taken up and LOOP_CLOSED is raised. Nothing else changes. During start-up no closure step is taken (section 6.6), and with no
closure in flight nothing changes (the model's choice, log 5). A closure goes on while RESETn is merely held low (DEDUCED, log 12), and
reads the limits from the working copy as it stands, also where a restart has lost the LOOP image (the model's choice, log 25). -/
def Obligations.ClosureStepReducesOneRecord : Prop :=
  ∀ s : State, (s.startUp ≠ none → exec .closureStep s = .next s) ∧
    (s.mainLive = true → s.startUp = none →
    (s.queue = [] ∨ s.closurePos = none → exec .closureStep s = .next s) ∧
    (∀ e rest pos, s.queue = e :: rest → s.closurePos = some pos →
      (e.b.seq ≤ pos →
        exec .closureStep s =
          .next (({ s with
            queue := rest
            closurePos := rest.head?.map fun x => x.a.seq + 1 } : State).raise .loopClosed)) ∧
      (pos < e.b.seq →
        let k := s.store.work.loop
        let drift := fun time : Nat =>
          if e.a.time < e.b.time then
            e.a.off + roundDiv ((e.b.off - e.a.off) * (clampInt e.a.time e.b.time time - e.a.time))
              (e.b.time - e.a.time)
          else e.a.off
        let reduced := fun x : Record =>
          match x.result with
          | some res =>
            if x.state = .ended ∧ x.role = .none then
              { x with red :=
                { status := .final
                  figures := some { drift := drift res.time, reduced := res.mean - drift res.time }
                  predicted := x.red.predicted
                  misclosed := decide (k.limit < (e.b.off - e.a.off).natAbs)
                  long := decide ((k.ll : Int) < (e.b.time : Int) - e.a.time)
                  zeroSpan := decide (e.b.time ≤ e.a.time) } }
            else x
          | none => x
        exec .closureStep s =
          .next { s with
            log := { s.log with records := s.log.records.map fun x => if x.seq = pos then reduced x else x }
            closurePos := some (pos + 1) })))

/-! ## The survey controller -/

/-- OPEN SURVEY and RESUME (section 7.3): accepted where every check passes, with the fields each changes, SURVEY_CHANGED and OK; refused by
the first check that fails, and then nothing changes. -/
def Obligations.OpenAndResume : Prop :=
  ∀ (s : State) (p : Port) (n : U16) (id : U32) (step : Byte),
    let inRange := 1 ≤ n.toNat ∧ 1 ≤ id.toNat ∧ id.toNat ≤ 999999 ∧ -99 ≤ step.toInt ∧ step.toInt ≤ 99 ∧ step.toInt ≠ 0
    let dirty := ∃ b, s.store.dirty.get b = true
    let defaulted := ∃ b, s.store.defaulted.get b = true
    let opens := fun st => exec (.openSurvey .survey n id step) s = .next (s.replied .survey .openSurvey (refusal st))
    let resumes := fun st => exec (.resume p) s = .next (s.replied p .resume (refusal st))
    (s.portReady .survey 7 = true →
      (s.survey.state ≠ .ready → opens .state) ∧
      (s.survey.state = .ready → ¬inRange → opens .range) ∧
      (s.survey.state = .ready → inRange → (s.store.commit.isSome = true ∨ s.store.computing = true) → opens .busy) ∧
      (s.survey.state = .ready → inRange → s.store.commit = none → s.store.computing = false → dirty → opens .state) ∧
      (s.survey.state = .ready → inRange → s.store.commit = none → s.store.computing = false → ¬dirty →
        exec (.openSurvey .survey n id step) s =
          .next ((({ s with
            survey := { s.survey with
              state := .survey, number := n.toNat, nextId := some id.toNat, step := step.toInt }
            loop := { counter := 0, opening := none, prediction := none } } : State).raise .surveyChanged).replied
              .survey .openSurvey (okAnswer .empty)))) ∧
    (s.portReady p 0 = true →
      (s.survey.state ≠ .held ∨ defaulted → resumes .state) ∧
      (s.survey.state = .held → ¬defaulted → s.store.computing = true → resumes .busy) ∧
      (s.survey.state = .held → ¬defaulted → s.store.computing = false →
        exec (.resume p) s =
          .next ((({ s with survey := { s.survey with state := .survey } } : State).raise .surveyChanged).replied p .resume
            (okAnswer .empty))))

/-- CLOSE SURVEY (sections 6.7 and 7.3): the open loop's PROVISIONAL records after its opening tie become UNCLOSED, the loop context and
the prediction pair are cleared, and the state becomes READY, or UNSET where a block is DEFAULTED; refused by the first check that
fails, and then nothing changes. -/
def Obligations.CloseSurveyEndsTheLoop : Prop :=
  ∀ s : State, s.portReady .survey 0 = true →
    let open_ := s.survey.state = .survey ∨ s.survey.state = .held
    let refused := fun st => exec (.closeSurvey .survey) s = .next (s.replied .survey .closeSurvey (refusal st))
    let unclose := fun r : Record =>
      match s.loop.opening with
      | some a =>
        if a.seq < r.seq ∧ r.red.status = .provisional then { r with red := { r.red with status := .unclosed } } else r
      | none => r
    (¬open_ → refused .state) ∧
    (open_ → s.occ.state ≠ .none → refused .active) ∧
    (open_ → s.occ.state = .none → s.queue ≠ [] → refused .busy) ∧
    (open_ → s.occ.state = .none → s.queue = [] → ∀ state : SurveyState,
      (state = .ready ∧ (∀ b, s.store.defaulted.get b = false) ∨
        state = .unset ∧ ∃ b, s.store.defaulted.get b = true) →
      exec (.closeSurvey .survey) s =
        .next ((({ s with
          survey := { s.survey with state := state }
          loop := { s.loop with opening := none, prediction := none }
          log := { s.log with records := s.log.records.map unclose } } : State).raise .surveyChanged).replied .survey
            .closeSurvey (okAnswer .empty)))

/-- SET LINE and SET POSITION (section 7.4): the next id and step, or the pending position, take the values given; out of range or, for
SET LINE, with no survey open, nothing changes. A position that is NONE has no range (DEDUCED, log 13). -/
def Obligations.SetLineAndPosition : Prop :=
  ∀ (s : State) (id lat lon : U32) (step ind : Byte),
    let open_ := s.survey.state = .survey ∨ s.survey.state = .held
    let lineOk := 1 ≤ id.toNat ∧ id.toNat ≤ 999999 ∧ -99 ≤ step.toInt ∧ step.toInt ≤ 99 ∧ step.toInt ≠ 0
    let posOk := lat.toInt.natAbs ≤ 90000000 ∧ lon.toInt.natAbs ≤ 180000000
    (s.portReady .survey 5 = true →
      (¬open_ → exec (.setLine .survey id step) s = .next (s.replied .survey .setLine (refusal .state))) ∧
      (open_ → ¬lineOk → exec (.setLine .survey id step) s = .next (s.replied .survey .setLine (refusal .range))) ∧
      (open_ → lineOk →
        exec (.setLine .survey id step) s =
          .next (({ s with survey := { s.survey with nextId := some id.toNat, step := step.toInt } } : State).replied
            .survey .setLine (okAnswer .empty)))) ∧
    (s.portReady .survey 9 = true →
      (ind = 0 →
        exec (.setPosition .survey ind lat lon) s =
          .next (({ s with pendingPos := none } : State).replied .survey .setPosition (okAnswer .empty))) ∧
      (ind = 1 → posOk →
        exec (.setPosition .survey ind lat lon) s =
          .next (({ s with pendingPos := some { lat := lat.toInt, lon := lon.toInt } } : State).replied .survey
            .setPosition (okAnswer .empty))) ∧
      (ind ≠ 0 → ¬(ind = 1 ∧ posOk) →
        exec (.setPosition .survey ind lat lon) s =
          .next (s.replied .survey .setPosition (refusal .range))))

/-- The survey lock (section 8.2): while a survey is open and no restart begins, no request and no frame changes the working copy or an
image of any block. -/
def Obligations.SurveyLocksTheConstants : Prop :=
  ∀ (s t : State) (c : Instr), s.survey.state = .survey ∨ s.survey.state = .held →
    c.request.isSome = true ∨ c.isFrame = true → exec c s = .next t →
    t.store.work = s.store.work ∧ t.nv = s.nv

/-! ## The constants store -/

/-- WRITE ITEM (section 8.2): where the checks pass, the whole item is written into the working copy and its block becomes dirty; refused by
the first check that fails, and then nothing changes. Item by item: which number names it, the range of every field (sections 2.2.1, 2.3.1,
3.1, 6.2 and 8.1), an enumerated field's codes (section 9.4), and the values that its raw fields give. A block that does not exist is
answered RANGE whatever the length of the payload, a payload of one byte among them (section 9.3). -/
def Obligations.WriteItemChecksInOrder : Prop :=
  (∀ (p : Port) (b i : Byte) (img : List Byte), ¬(1 ≤ b.toNat ∧ b.toNat ≤ 5) →
    decodePayload p .writeItem [b] = some (.writeItem p (.absentBlock b)) ∧
    decodePayload p .writeItem (b :: i :: img) = some (.writeItem p (.absent b i))) ∧
  ∀ (s : State) (p : Port) (w : ItemWrite), s.portReady p (encodePayload (.writeItem p w)).length = true →
    let k := s.store.work
    let refused := fun st => exec (.writeItem p w) s = .next (s.replied p .writeItem (refusal st))
    let open_ := s.survey.state = .survey ∨ s.survey.state = .held
    let decided := fun (b : Block) (ok : Prop) (work : Constants) =>
      let mine := p = (match b with | .cal | .sensor => .meter | .tide | .settle | .loop => .survey)
      (¬mine → refused .denied) ∧
      (mine → open_ → refused .state) ∧
      (mine → ¬open_ → s.store.commit.isSome = true → refused .busy) ∧
      (mine → ¬open_ → s.store.commit = none → ¬ok → refused .range) ∧
      (mine → ¬open_ → s.store.commit = none → ok →
        exec (.writeItem p w) s =
          .next (({ s with store := { s.store with work := work, dirty := s.store.dirty.set b true } } : State).replied p
            .writeItem (okAnswer .empty)))
    match w with
    | .calHeader n tol =>
      decided .cal (1 ≤ n.toNat ∧ n.toNat ≤ 80 ∧ tol.toNat ≤ 1000)
        { k with cal := { k.cal with n := n.toNat, tol := tol.toNat } }
    | .calInterval i g f =>
      decided .cal (i.toNat ≤ 79 ∧ 0 ≤ g.toInt ∧ g.toInt ≤ 100000000 ∧ 1 ≤ f.toNat ∧ f.toNat ≤ 2147483648)
        { k with cal := { k.cal with intervals := k.cal.intervals.set i.toNat { g := g.toInt, f := f.toNat } } }
    | .sensor ox oy kt lt tc shift =>
      decided .sensor
        (-32767 ≤ ox.toInt ∧ -32767 ≤ oy.toInt ∧ kt.toNat ≤ 1048575 ∧ 1 ≤ lt.toNat ∧ lt.toNat ≤ 3000 ∧ shift.toNat ≤ 10)
        { k with sensor :=
          { ox := ox.toInt, oy := oy.toInt, kt := kt.toNat, lt := lt.toNat, tc := tc.toInt, shift := shift.toNat } }
    | .tideHeader m enable delta =>
      decided .tide (m.toNat ≤ 16 ∧ (enable = 0 ∨ enable = 1) ∧ delta.toNat ≤ 32767)
        { k with tide := { k.tide with m := m.toNat, enabled := enable == 1, delta := delta.toNat } }
    | .constituent c species a f ph =>
      decided .tide (c.toNat ≤ 15 ∧ species.toNat ≤ 2 ∧ -32767 ≤ a.toInt ∧ ph.toNat ≤ 16777215)
        { k with tide := { k.tide with
          parts := k.tide.parts.set c.toNat { species := species.toNat, f := f.toNat, p := ph.toNat, a := a.toInt } } }
    | .settle q a e gapLimit minCount =>
      decided .settle
        (1 ≤ q.toNat ∧ 4 ≤ a.toNat ∧ a.toNat ≤ 32 ∧ 1 ≤ e.toNat ∧ e.toNat ≤ 31 ∧ 1 ≤ gapLimit.toNat ∧
          gapLimit.toNat ≤ 30 ∧ 1 ≤ minCount.toNat)
        { k with settle :=
          { q := q.toNat, a := a.toNat, e := e.toNat, gapLimit := gapLimit.toNat, minCount := minCount.toNat } }
    | .loop limit ll =>
      decided .loop (1 ≤ limit.toNat ∧ limit.toNat ≤ 10000000 ∧ 600 ≤ ll.toNat ∧ ll.toNat ≤ 86400)
        { k with loop := { limit := limit.toNat, ll := ll.toNat } }
    | .absent b _ | .absentBlock b =>
      match b.toNat with
      | 1 => decided .cal False k
      | 2 => decided .sensor False k
      | 3 => decided .tide False k
      | 4 => decided .settle False k
      | 5 => decided .loop False k
      | _ => refused .range

/-- An accepted item reads back as it was written, and every other item reads as before (section 8.2). -/
def Obligations.WrittenItemReadsBack : Prop :=
  ∀ (c : Constants) (w : ItemWrite) (v : ItemValue) (block : Block),
    w.wellFormed = true → writtenBlock w = some block → acceptedValue w = some v →
    c.cal.intervals.length = 80 → c.tide.parts.length = 16 →
    (c.write (writtenItem w) v).read (blockNumber block) (BitVec.ofNat 8 (writtenItem w)) = some v ∧
    (∀ b i : Byte, ¬(b = blockNumber block ∧ i = BitVec.ofNat 8 (writtenItem w)) →
      (c.write (writtenItem w) v).read b i = c.read b i)

/-- COMMIT (section 8.4): refused by the first check that fails; the first block that has a field out of range (sections 2.2.1, 2.3.1, 3.1, 6.2
and 8.1), or is a CAL block whose neighbouring intervals differ by more than tol (section 2.2.1), is named; otherwise the blocks to be
committed are examined in order: one that equals its valid image loses its dirty mark, the first that differs has its write begun, and
with none left the commit is done. All of this is one step (the model's choice, log 24). -/
def Obligations.CommitExaminesTheBlocks : Prop :=
  ∀ (s : State) (p : Port), s.portReady p 0 = true →
    let k := s.store.work
    let open_ := s.survey.state = .survey ∨ s.survey.state = .held
    let todo := [Block.cal, .sensor, .tide, .settle, .loop].filter fun b =>
      s.store.dirty.get b || s.store.defaulted.get b
    let inRange : Block → Prop := fun b =>
      match b with
      | .cal =>
        1 ≤ k.cal.n ∧ k.cal.n ≤ 80 ∧ k.cal.tol ≤ 1000 ∧ k.cal.intervals.length = 80 ∧
          ∀ v ∈ k.cal.intervals, 0 ≤ v.g ∧ v.g ≤ 100000000 ∧ 1 ≤ v.f ∧ v.f ≤ 2147483648
      | .sensor =>
        k.sensor.ox.natAbs ≤ 32767 ∧ k.sensor.oy.natAbs ≤ 32767 ∧ k.sensor.kt ≤ 1048575 ∧ 1 ≤ k.sensor.lt ∧
          k.sensor.lt ≤ 3000 ∧ -2147483648 ≤ k.sensor.tc ∧ k.sensor.tc ≤ 2147483647 ∧ k.sensor.shift ≤ 10
      | .tide =>
        k.tide.m ≤ 16 ∧ k.tide.delta ≤ 32767 ∧ k.tide.parts.length = 16 ∧
          ∀ v ∈ k.tide.parts, v.species ≤ 2 ∧ v.f ≤ 4294967295 ∧ v.p ≤ 16777215 ∧ v.a.natAbs ≤ 32767
      | .settle =>
        1 ≤ k.settle.q ∧ k.settle.q ≤ 65535 ∧ 4 ≤ k.settle.a ∧ k.settle.a ≤ 32 ∧ 1 ≤ k.settle.e ∧ k.settle.e ≤ 31 ∧
          1 ≤ k.settle.gapLimit ∧ k.settle.gapLimit ≤ 30 ∧ 1 ≤ k.settle.minCount ∧ k.settle.minCount ≤ 65535
      | .loop => 1 ≤ k.loop.limit ∧ k.loop.limit ≤ 10000000 ∧ 600 ≤ k.loop.ll ∧ k.loop.ll ≤ 86400
    let coherent := ∀ i a b, i + 1 < k.cal.n → k.cal.intervals[i]? = some a → k.cal.intervals[i + 1]? = some b →
      (b.g - (a.g + roundDiv (1000000 * (a.f : Int)) (2 ^ 30))).natAbs ≤ k.cal.tol
    let valid : Block → Prop := fun b => inRange b ∧ (b = .cal → coherent)
    let equal : Block → Prop := fun b =>
      inRange b ∧
        match b with
        | .cal => s.nv.cal = some k.cal
        | .sensor => s.nv.sensor = some k.sensor
        | .tide => s.nv.tide = some k.tide
        | .settle => s.nv.settle = some k.settle
        | .loop => s.nv.loop = some k.loop
    let accepted := okAnswer (.blocks todo.length)
    (open_ → exec (.commit p) s = .next (s.replied p .commit (refusal .state))) ∧
    (¬open_ → (s.store.commit.isSome = true ∨ s.store.computing = true) →
      exec (.commit p) s = .next (s.replied p .commit (refusal .busy))) ∧
    (¬open_ → s.store.commit = none → s.store.computing = false →
      (∀ before b after, todo = before ++ b :: after → (∀ x ∈ before, valid x) → ¬valid b →
        exec (.commit p) s = .next (s.replied p .commit { status := .invalid, payload := .invalid b })) ∧
      ((∀ b ∈ todo, valid b) → ∀ same others, todo = same ++ others → (∀ b ∈ same, equal b) →
        let marks := same.foldl (fun m b => m.set b false) s.store.dirty
        (others = [] →
          exec (.commit p) s =
            .next ((({ s with store := { s.store with dirty := marks } } : State).raise .commitDone).leaveUnset.replied p
              .commit accepted)) ∧
        (∀ b rest, others = b :: rest → ¬equal b →
          exec (.commit p) s =
            .next (({ s with
              nv := s.nv.spoil b
              store := { s.store with dirty := marks, commit := some (b :: rest) } } : State).replied p .commit
                accepted))))

/-- BLOCK_WRITE_COMPLETE (section 8.4): the image holds the working copy's values and both the block's marks are cleared; the blocks after it
are examined in order, and with none left the commit is done: COMMIT_DONE, the digest begins, UNSET may be left. The next block's write
has begun, and its image is invalid, or has still to begin, and its image stands: which of the two a command behind this one finds is
left open by the field State.pauses, for every value of which this holds (log 21). A restart leaves every image as it finds it, so one
that comes between two block writes leaves none torn (section 8.7). With no commit nothing happens (the model's choice, log 5); a write
goes on while RESETn is merely held low (DEDUCED, log 12). That all the blocks up to the next that differs are examined in this one step,
and the commit done in it where none differs, is the model's choice (log 24). -/
def Obligations.BlockWriteCompletes : Prop :=
  (∀ (s : State), s.mainLive = true →
    (s.store.commit = none → exec .blockWriteComplete s = .next s) ∧
    (∀ b rest, s.store.commit = some (b :: rest) →
      let nv := s.nv.write s.store.work b
      let same := rest.takeWhile fun x => nv.holds s.store.work x
      let dirty := same.foldl (fun m x => m.set x false) (s.store.dirty.set b false)
      let defaulted := s.store.defaulted.set b false
      (rest = same →
        exec .blockWriteComplete s =
          .next (({ s with
            nv := nv
            store := { s.store with
              dirty := dirty, defaulted := defaulted, commit := none, computing := true } } : State).raise
                .commitDone).leaveUnset) ∧
      (∀ b' rest', rest = same ++ b' :: rest' →
        exec .blockWriteComplete s =
          .next { s with
            nv := if s.pauses then nv else nv.spoil b'
            store := { s.store with dirty := dirty, defaulted := defaulted, commit := some (b' :: rest') } }))) ∧
  (∀ (s t : State) (p : Port) (vbak : Bool),
    s.portReady p 0 = true ∧ exec (.softReset p) s = .next t ∨ exec .resetnRelease s = .next t ∨ exec .vddRise s = .next t ∨
      exec (.vddFall vbak) s = .next t → t.nv = s.nv)

/-- DISCARD (section 8.5): every block takes its valid image's values, or its factory defaults and the DEFAULTED mark, and no block is dirty;
STATE with a survey open, BUSY while committing. -/
def Obligations.DiscardReloadsTheImages : Prop :=
  ∀ (s : State) (p : Port), s.portReady p 0 = true →
    let open_ := s.survey.state = .survey ∨ s.survey.state = .held
    (open_ → exec (.discard p) s = .next (s.replied p .discard (refusal .state))) ∧
    (¬open_ → s.store.commit.isSome = true → exec (.discard p) s = .next (s.replied p .discard (refusal .busy))) ∧
    (¬open_ → s.store.commit = none → ∃ k m,
      exec (.discard p) s =
        .next (({ s with
          store := { s.store with
            work := k, defaulted := m
            dirty := { cal := false, sensor := false, tide := false, settle := false, loop := false } } } : State).replied p
              .discard (okAnswer .empty)) ∧
      (∀ v, s.nv.cal = some v → v.inRange = true → k.cal = v ∧ m.cal = false) ∧
      ((∀ v, s.nv.cal = some v → v.inRange = false) → k.cal = CalBlock.factory ∧ m.cal = true) ∧
      (∀ v, s.nv.sensor = some v → (ItemValue.sensor v).inRange = true → k.sensor = v ∧ m.sensor = false) ∧
      ((∀ v, s.nv.sensor = some v → (ItemValue.sensor v).inRange = false) →
        k.sensor = SensorBlock.factory ∧ m.sensor = true) ∧
      (∀ v, s.nv.tide = some v → v.inRange = true → k.tide = v ∧ m.tide = false) ∧
      ((∀ v, s.nv.tide = some v → v.inRange = false) → k.tide = TideBlock.factory ∧ m.tide = true) ∧
      (∀ v, s.nv.settle = some v → (ItemValue.settle v).inRange = true → k.settle = v ∧ m.settle = false) ∧
      ((∀ v, s.nv.settle = some v → (ItemValue.settle v).inRange = false) →
        k.settle = SettleBlock.factory ∧ m.settle = true) ∧
      (∀ v, s.nv.loop = some v → (ItemValue.loop v).inRange = true → k.loop = v ∧ m.loop = false) ∧
      ((∀ v, s.nv.loop = some v → (ItemValue.loop v).inRange = false) → k.loop = LoopBlock.factory ∧ m.loop = true))

/-- DIGEST_COMPLETE (section 8.6): the digest of the images is stored, the state becomes VALID and DIGEST_READY is raised. A computation that
a restart has abandoned does not complete: before stage 3 begins a new one nothing happens. With no computation running nothing happens
(the model's choice, log 5); one goes on while RESETn is merely held low (DEDUCED, log 12). The digest takes the five images in block
order, item by item, the bytes of each in order from a register of all ones, which is complemented at the end; the bits of a byte go in
from the least significant on, each with a shift, and with the polynomial 0xEDB88320 where it differs from the register's least
significant bit. NV_IMAGE_LOSS (section 8.3) makes one image invalid while VDD is absent; with VDD present it does not occur and changes
nothing (the model's choice, log 5). -/
def Obligations.DigestAndImageLoss : Prop :=
  ∀ (s : State) (b : Block),
    (s.storeLive = true → s.store.computing = true →
      exec .digestComplete s =
        .next (({ s with
          store := { s.store with digest := digestOf s.nv.constants.image, computing := false } } : State).raise
            .digestReady)) ∧
    (s.store.computing = false ∨ s.startUp = some .mainDomain ∨ s.startUp = some .constants →
      exec .digestComplete s = .next s) ∧
    (∀ bytes x, digestOf [] = 0 ∧ digestOf (bytes ++ [x]) = ~~~(digestByte (~~~digestOf bytes) x)) ∧
    (∀ (reg : U32) (x : Byte),
      digestByte reg x = (List.range 8).foldl
        (fun (r : U32) i => if (r.getLsbD 0 ^^ x.getLsbD i) = true then (r >>> 1) ^^^ 0xEDB88320#32 else r >>> 1) reg) ∧
    (∀ k : Constants,
      k.image =
        (ItemValue.calHeader k.cal.n k.cal.tol).image ++ (k.cal.intervals.flatMap fun v => (ItemValue.calInterval v).image) ++
          (ItemValue.sensor k.sensor).image ++ (ItemValue.tideHeader k.tide.m k.tide.enabled k.tide.delta).image ++
          (k.tide.parts.flatMap fun v => (ItemValue.constituent v).image) ++ (ItemValue.settle k.settle).image ++
          (ItemValue.loop k.loop).image) ∧
    (s.supply.vdd = true → exec (.nvImageLoss b) s = .next s) ∧
    (s.supply.vdd = false →
      exec (.nvImageLoss b) s =
        .next { s with nv := match b with
          | .cal => { s.nv with cal := none }
          | .sensor => { s.nv with sensor := none }
          | .tide => { s.nv with tide := none }
          | .settle => { s.nv with settle := none }
          | .loop => { s.nv with loop := none } })

/-! ## Supplies and restarts -/

/-- Stage 1 of a restart on the retained domain (R141): POWER_LOST clears it; the other three causes leave every retained item as it stood
but the ACTIVE record and the last restart cause (the survey state follows in stage 4). The end time that the ACTIVE record takes where
RESETn held low delayed the restart is left open here. -/
def Obligations.RestartOnTheRetainedDomain : Prop :=
  ∀ (s : State) (p : Port),
    let keptAt := fun (now : Nat) (t : State) (c : Cause) (cause : EndCause) =>
      t.clock = s.clock ∧ t.survey = { s.survey with lastCause := c } ∧ t.bases = s.bases ∧ t.loop = s.loop ∧
        t.queue = s.queue ∧ t.mark = s.mark ∧ t.log = { s.log with records := s.log.records.map fun r =>
          if r.state = .active then { r with state := .abandoned, stop := some now, cause := cause } else r }
    let kept := keptAt s.clock.value
    let lost := fun t : State =>
      t.clock = { value := 0, isSet := false, divider := 0 } ∧ t.log = { records := [], counter := 1 } ∧ t.bases = [] ∧
        t.loop = { counter := 0, opening := none, prediction := none } ∧ t.queue = [] ∧ t.mark = true ∧
        t.survey = { state := .unset, number := 0, nextId := none, step := 1, lastCause := .powerLost }
    (s.supply.vdd = false → s.supply.resetLow = false → s.mark = false → ∃ t, exec .vddRise s = .next t ∧ lost t) ∧
    (s.supply.vdd = false → s.supply.resetLow = false → s.mark = true → ∃ t, exec .vddRise s = .next t ∧
      kept t .powerRetained .power) ∧
    (s.supply.vdd = true → s.supply.resetLow = true → s.supply.restartDue = false → ∃ t, exec .resetnRelease s = .next t ∧
      kept t .resetLine .reset) ∧
    (s.portReady p 0 = true → ∃ t, exec (.softReset p) s = .next t ∧ kept t .soft .reset) ∧
    (s.supply.vdd = true → s.supply.resetLow = true → s.supply.restartDue = true →
      ∃ t, exec .resetnRelease s = .next t ∧
        (s.mark = false → lost t) ∧ (s.mark = true → ∃ now, keptAt now t .powerRetained .power))

/-- What begins a restart (section 7.6), as whole next states. Responses not yet sent, a partial frame and a commit in progress are cut
short as it begins, and an event that does not begin one changes the pin alone, or nothing (the model's choices, logs 5 and 12). -/
def Obligations.RestartBegins : Prop :=
  ∀ (s : State) (p : Port),
    let cut := fun (t : State) (c : Cause) (x : Supply) =>
      ({ t with
        survey := { t.survey with lastCause := c }
        meter := { s.meter with slot := .idle, txn := none }
        uart := { s.uart with rx := .hunt, buf := [], timer := false, out := none }
        store := { s.store with commit := none }
        supply := x
        startUp := some .mainDomain } : State)
    let kept : EndCause → State := fun cause =>
      { s with log := { s.log with records := s.log.records.map fun r =>
          if r.state = .active then { r with state := .abandoned, stop := some s.clock.value, cause := cause } else r } }
    let lost : State :=
      { s with
        clock := { value := 0, isSet := false, divider := 0 }
        survey := { state := .unset, number := 0, nextId := none, step := 1, lastCause := .powerLost }
        bases := []
        loop := { counter := 0, opening := none, prediction := none }
        queue := []
        log := { records := [], counter := 1 }
        mark := true }
    let up : Supply := { vdd := true, vbak := s.supply.vbak, resetLow := false, restartDue := false }
    (s.supply.vdd = true → exec .vddRise s = .next s) ∧
    (s.supply.vdd = false → s.supply.resetLow = true →
      exec .vddRise s = .next { s with supply := { s.supply with vdd := true, restartDue := true } }) ∧
    (s.supply.vdd = false → s.supply.resetLow = false → s.mark = true →
      exec .vddRise s = .next (cut (kept .power) .powerRetained up)) ∧
    (s.supply.vdd = false → s.supply.resetLow = false → s.mark = false →
      exec .vddRise s = .next (cut lost .powerLost up)) ∧
    (s.supply.resetLow = false → exec .resetnRelease s = .next s) ∧
    (s.supply.resetLow = true → s.supply.vdd = false →
      exec .resetnRelease s = .next { s with supply := { s.supply with resetLow := false } }) ∧
    (s.supply.resetLow = true → s.supply.vdd = true →
      (s.supply.restartDue = false → exec .resetnRelease s = .next (cut (kept .reset) .resetLine up)) ∧
      (s.supply.restartDue = true → s.mark = true →
        exec .resetnRelease s = .next (cut (kept .power) .powerRetained up)) ∧
      (s.supply.restartDue = true → s.mark = false → exec .resetnRelease s = .next (cut lost .powerLost up))) ∧
    (s.portReady p 0 = true → exec (.softReset p) s = .next (cut (kept .reset) .soft up))

/-- START_UP_STAGE (section 7.6): stages 2, 3 and 5 of a restart, each a whole next state. With no restart in progress, or with RESETn low
or no VDD, no stage is taken (the model's choice, log 5). -/
def Obligations.StartUpStagesInOrder : Prop :=
  ∀ (s : State) (baudsel : Bool),
    ((s.startUp = none ∨ s.supply.vdd = false ∨ s.supply.resetLow = true) →
      exec (.startUpStage baudsel) s = .next s) ∧
    (s.supply.vdd = true → s.supply.resetLow = false →
      (s.startUp = some .mainDomain →
        exec (.startUpStage baudsel) s =
          .next { s with
            meter := { slot := .idle, txn := none, expected := none, cursor := none, events := 1, mask := 0x1FFF }
            uart :=
              { rx := .hunt, buf := [], timer := false, out := none, rate := if baudsel then .b115200 else .b57600,
                overruns := 0, cursor := none, events := 1, mask := 0x1FFF }
            chain := { tf := 0, primed := false, live := none, stale := true, lost := 0 }
            cache := none
            occ :=
              { state := .none, run := 0, ref := none, window := List.replicate 32 false, gap := 0, sums := .clear,
                counts := { gaps := 0, losses := 0, loss := false }, staleness := 0 }
            closurePos := none
            pendingPos := none
            startUp := some .constants }) ∧
      (s.startUp = some .constants →
        exec (.startUpStage baudsel) s =
          .next { s with
            store :=
              { work := s.nv.constants, dirty := .all false, defaulted := s.nv.invalid, commit := none, digest := 0,
                computing := true }
            startUp := some .surveyState }) ∧
      (s.startUp = some .finish →
        exec (.startUpStage baudsel) s =
          .next { s with closurePos := s.queue.head?.map fun e => e.a.seq + 1, startUp := none }))

/-- Stage 4 sets the survey state from the restart's cause, the state found and the DEFAULTED marks, and changes nothing else (R142). -/
def Obligations.SurveyStateAfterRestart : Prop :=
  ∀ (s : State) (baudsel : Bool),
    s.supply.vdd = true → s.supply.resetLow = false → s.startUp = some .surveyState →
    let becomes := fun x : SurveyState =>
      exec (.startUpStage baudsel) s =
        .next { s with survey := { s.survey with state := x }, startUp := some .finish }
    (s.survey.lastCause = .powerLost → becomes .unset) ∧
    (s.survey.lastCause ≠ .powerLost →
      (s.survey.state = .unset → becomes .unset) ∧
      (s.survey.state = .ready → (∀ b, s.store.defaulted.get b = false) → becomes .ready) ∧
      (s.survey.state = .ready → (∃ b, s.store.defaulted.get b = true) → becomes .unset) ∧
      (s.survey.state = .survey → becomes .held) ∧
      (s.survey.state = .held → becomes .held))

/-- VDD_FALL, VBAK_FAIL and RESETN_ASSERT (section 7.6): the retained domain stands while either supply holds it, and its mark is lost with
both; the images stand; a failing VBAK under VDD, and RESETn, change their pin alone. What a domain without supply holds is free
(log 4); VDD_FALL carries VBAK's level (the model's choice, log 16), and with VDD absent it does not occur and changes nothing (the
model's choice, log 5). -/
def Obligations.SuppliesFallAndFail : Prop :=
  ∀ (s : State) (vbak : Bool),
    let retained := fun t : State =>
      t.clock = s.clock ∧ t.survey = s.survey ∧ t.bases = s.bases ∧ t.loop = s.loop ∧ t.queue = s.queue ∧
        t.log = s.log ∧ t.mark = s.mark
    (s.supply.vdd = true → ∃ t, exec (.vddFall vbak) s = .next t ∧
      t.supply = { vdd := false, vbak := vbak, resetLow := s.supply.resetLow, restartDue := false } ∧
      t.startUp = none ∧ t.nv = s.nv ∧ (vbak = true → retained t) ∧ (vbak = false → t.mark = false)) ∧
    (s.supply.vdd = false → exec (.vddFall vbak) s = .next s) ∧
    (s.supply.vdd = true → exec .vbakFail s = .next { s with supply := { s.supply with vbak := false } }) ∧
    (s.supply.vdd = false → ∃ t, exec .vbakFail s = .next t ∧
      t.supply = { s.supply with vbak := false } ∧ t.mark = false ∧ t.nv = s.nv ∧ t.startUp = s.startUp) ∧
    exec .resetnAssert s = .next { s with supply := { s.supply with resetLow := true } }

/-- The first power-on, with no retention mark and images never written, reaches State.reset through the stages of its restart (sections 7.6
and 8.7; that reset is taken there, and BAUDSEL low, are the model's choices, logs 1 and 2). -/
def Obligations.FirstPowerOnReachesReset : Prop :=
  ∀ s : State, s.supply.vdd = false → s.supply.resetLow = false → s.mark = false →
    s.nv = { cal := none, sensor := none, tide := none, settle := none, loop := none } →
    ∃ t1 t2 t3 t4, exec .vddRise s = .next t1 ∧ exec (.startUpStage false) t1 = .next t2 ∧
      exec (.startUpStage false) t2 = .next t3 ∧ exec (.startUpStage false) t3 = .next t4 ∧
      exec (.startUpStage false) t4 =
        .next { State.reset with
          supply := { State.reset.supply with vbak := s.supply.vbak }
          pins := s.pins
          free := s.free
          pauses := s.pauses
          pending := s.pending }

/-! ## The ports -/

/-- CSN_FALL, METER_FRAME_DISCARD and OPERATION_ANSWER on the meter port (section 9.1): what MISO carries and what becomes of the slot. A
transaction that began in TAKING ends unexamined; in any other METER_FRAME_DISCARD does not occur, nor does OPERATION_ANSWER with no
operation at work, and neither changes anything (the model's choice, log 5). A CSN_FALL over an open transaction ends that one as empty,
and one that clocks no byte is a whole transaction (the model's choice, log 6). A response frame is status, length, payload and check
byte, summing to 0; the status codes are those of section 9.3 and the images have the sizes of section 9.4. -/
def Obligations.MeterTransactions : Prop :=
  (∀ a : Response, ∃ check : Byte,
    meterFrame a = [a.status.code, BitVec.ofNat 8 a.payload.bytes.length] ++ a.payload.bytes ++ [check] ∧
    ((meterFrame a).map (·.toNat)).sum % 256 = 0) ∧
  ([Status.ok, .frame, .unknown, .denied, .state, .range, .busy, .active, .idle, .noBase, .noId, .noPosition, .logFull,
    .tableFull, .queueFull, .clockStep, .inUse, .invalid, .noCursor].map fun x => x.code.toNat) = List.range' 1 19 ∧
  (∀ r : LiveReport, r.image.length = 56) ∧ (∀ r : StatusReport, r.image.length = 28) ∧ (∀ r : Record, r.image.length = 64) ∧
  (∀ v : ItemValue, v.image.length = match v with
    | .calHeader .. => 4 | .calInterval _ => 8 | .sensor _ => 16 | .tideHeader .. => 4 | .constituent _ => 12
    | .settle _ => 8 | .loop _ => 8) ∧
  (∀ (s : State) (n : Nat), s.supply.vdd = true → s.supply.resetLow = false →
    let fall := fun (slot : Slot) (txn : Option Txn) (miso : List Byte) =>
      exec (.csnFall n) s =
        .next { s with meter := { s.meter with slot := slot, txn := txn }, pins := { s.pins with miso := miso } }
    (n = 0 → fall s.meter.slot none []) ∧
    (0 < n →
      (s.meter.slot = .idle → fall .idle (some { discard := false, clocked := n }) (List.replicate n 0)) ∧
      (∀ r, s.meter.slot = .taking r →
        fall (.taking r) (some { discard := true, clocked := n }) (0x80 :: List.replicate (n - 1) 0)) ∧
      (∀ r, s.meter.slot = .holding r →
        fall .idle (some { discard := false, clocked := n }) ((meterFrame r ++ List.replicate n 0).take n))) ∧
    (∀ txn, s.meter.txn = some txn → txn.discard = true →
      exec .meterFrameDiscard s = .next { s with meter := { s.meter with txn := none } }) ∧
    ((∀ txn, s.meter.txn = some txn → txn.discard = false) → exec .meterFrameDiscard s = .next s) ∧
    (s.supply.restartDue = false →
      (∀ r, s.meter.slot = .taking r →
        exec (.operationAnswer .meter) s = .next { s with meter := { s.meter with slot := .holding r } }) ∧
      ((∀ r, s.meter.slot ≠ .taking r) → exec (.operationAnswer .meter) s = .next s)))

/-- METER_FRAME_REJECT (section 9.1): the bytes of a transaction that did not begin in TAKING are judged by the conditions in their order,
and the first that fails gives the answer, held at once; an empty transaction, and one that began in TAKING, gets none. Nothing else
changes. -/
def Obligations.MeterFramesAreJudgedInOrder : Prop :=
  ∀ (s : State) (bytes : List Byte) (txn : Txn),
    s.supply.vdd = true → s.supply.resetLow = false → s.meter.txn = some txn → bytes.length ≤ txn.clocked →
    let quiet := exec (.meterFrameReject bytes) s = .next { s with meter := { s.meter with txn := none } }
    let answered := fun st =>
      exec (.meterFrameReject bytes) s = .next (s.answeredAtOnce .meter 0 (refusal st))
    (txn.discard = true → quiet) ∧
    (txn.discard = false →
      (bytes = [] → quiet) ∧ (∀ rest, bytes = 0 :: rest → quiet) ∧
      (∀ c, bytes = [c] → c ≠ 0 → answered .frame) ∧
      (∀ c l body, bytes = c :: l :: body → c ≠ 0 →
        let given := body.take (l.toNat + 1)
        let sum := ((c :: l :: given).map (·.toNat)).sum % 256
        (80 < l.toNat → answered .frame) ∧
        (l.toNat ≤ 80 → body.length < l.toNat + 1 → answered .frame) ∧
        (l.toNat ≤ 80 → l.toNat + 1 ≤ body.length → sum ≠ 0 → answered .frame) ∧
        (l.toNat ≤ 80 → l.toNat + 1 ≤ body.length → sum = 0 → (∀ r : Req, r.code ≠ c) → answered .unknown) ∧
        (l.toNat ≤ 80 → l.toNat + 1 ≤ body.length → sum = 0 → ∀ r : Req, r.code = c →
          decodePayload .meter r (body.take l.toNat) = none → answered .frame)))

/-- The survey port (section 9.2): bytes are received one after another; a stray byte, a sync byte, a bad length, a rejected frame; the bytes
of a frame one by one in RECEIVE and in DISCARD, whatever becomes of the response meanwhile; a frame begun while a request is outstanding; the timer; OPERATION_ANSWER starts
the response, and RESPONSE_SENT ends it with the frame sent on TXD and no request outstanding. Nothing but the receiver, the outstanding
request, the overrun count and TXD changes. A response frame is sync byte, length, type, status, payload and check byte, summing to 0
from its length on. The model's own: the timer runs from the sync byte on (DESIGN CHOICE, log 9), FRAME and UNKNOWN are sent at once
(DEDUCED, log 15), a timer that does not run, a response not being sent and an answer not due change nothing (DESIGN CHOICE, log 5), and
the response goes on while RESETn is merely held low (DEDUCED, log 12). -/
def Obligations.SurveyPortFollowsItsStates : Prop :=
  (∀ (c : Byte) (a : Response), ∃ check : Byte,
    surveyFrame c a =
      [0xA5, BitVec.ofNat 8 (a.payload.bytes.length + 2), c, a.status.code] ++ a.payload.bytes ++ [check] ∧
    (((surveyFrame c a).drop 1).map (·.toNat)).sum % 256 = 0) ∧
  (∀ (s t : State) (b : Byte) (rest : List Byte), exec (.surveyFrameReject [b]) s = .next t →
    exec (.surveyFrameReject (b :: rest)) s = exec (.surveyFrameReject rest) t) ∧
  (∀ (s : State) (bytes : List Byte), s.uart.out ≠ none ∨ s.uart.rx = .discard →
    exec (.surveyFrameOverrun bytes) s = exec (.surveyFrameReject bytes) s) ∧
  (∀ (s : State), s.supply.vdd = true → s.supply.resetLow = false →
    let judged := fun (bytes : List Byte) (l type : Byte) (rest : List Byte) =>
      let sum := ((l :: type :: rest).map (·.toNat)).sum % 256
      let answered := fun st =>
        exec (.surveyFrameReject bytes) s = .next (s.answeredAtOnce .survey type (refusal st))
      (sum ≠ 0 → answered .frame) ∧
      (sum = 0 → (∀ r : Req, r.code ≠ type) → answered .unknown) ∧
      (sum = 0 → ∀ r : Req, r.code = type → decodePayload .survey r rest.dropLast = none → answered .frame)
    let overruns := if 65535 < s.uart.overruns + 1 then 65535 else s.uart.overruns + 1
    let hunting : State := { s with uart := { s.uart with rx := .hunt, buf := [], timer := false } }
    let dropped : Host.Outcome State Fault Refusal := .next hunting
    (s.uart.rx = .hunt → s.uart.out = none →
      (∀ b : Byte, b ≠ 0xA5 → exec (.surveyFrameReject [b]) s = .next s) ∧
      exec (.surveyFrameReject [0xA5]) s =
        .next { s with uart := { s.uart with rx := .receive, buf := [], timer := true } } ∧
      (∀ l : Byte, l = 0 ∨ 250 < l.toNat →
        exec (.surveyFrameReject [0xA5, l]) s = .next (s.answeredAtOnce .survey 0 (refusal .frame))) ∧
      (∀ (l type : Byte) (rest : List Byte), 1 ≤ l.toNat → l.toNat ≤ 250 → rest.length = l.toNat →
        judged (0xA5 :: l :: type :: rest) l type rest)) ∧
    (s.uart.rx = .receive → ∀ b : Byte,
      (s.uart.buf = [] → b = 0 ∨ 250 < b.toNat →
        exec (.surveyFrameReject [b]) s = .next (s.answeredAtOnce .survey 0 (refusal .frame))) ∧
      (∀ (l : Byte) (rest : List Byte), s.uart.buf ++ [b] = l :: rest → 1 ≤ l.toNat → l.toNat ≤ 250 →
        rest.length < l.toNat + 1 →
        exec (.surveyFrameReject [b]) s =
          .next { s with uart := { s.uart with buf := s.uart.buf ++ [b], timer := true } }) ∧
      (∀ (l type : Byte) (rest : List Byte), s.uart.buf ++ [b] = l :: type :: rest → 1 ≤ l.toNat → l.toNat ≤ 250 →
        rest.length = l.toNat →
        judged [b] l type rest ∧
        (((l :: type :: rest).map (·.toNat)).sum % 256 = 0 → ∀ (r : Req) (i : Instr), r.code = type →
          decodePayload .survey r rest.dropLast = some i → exec (.surveyFrameReject [b]) s = exec i hunting))) ∧
    (s.uart.rx = .hunt → s.uart.out ≠ none →
      exec (.surveyFrameOverrun [0xA5]) s =
        .next { s with uart := { s.uart with rx := .discard, buf := [], timer := true, overruns := overruns } } ∧
      ∀ (l : Byte) (rest : List Byte), 1 ≤ l.toNat → l.toNat ≤ 250 → rest.length = l.toNat + 1 →
        exec (.surveyFrameOverrun (0xA5 :: l :: rest)) s =
          .next { s with uart := { s.uart with buf := [], timer := false, overruns := overruns } }) ∧
    (s.uart.rx = .discard →
      (s.uart.buf = [] → ∀ b : Byte, b = 0 ∨ 250 < b.toNat → exec (.surveyFrameOverrun [b]) s = dropped) ∧
      (∀ (b l : Byte) (rest : List Byte), s.uart.buf ++ [b] = l :: rest → 1 ≤ l.toNat → l.toNat ≤ 250 →
        rest.length < l.toNat + 1 →
        exec (.surveyFrameOverrun [b]) s =
          .next { s with uart := { s.uart with buf := s.uart.buf ++ [b], timer := true } }) ∧
      (∀ (tail : List Byte) (l : Byte) (rest : List Byte), tail ≠ [] → s.uart.buf ++ tail = l :: rest → 1 ≤ l.toNat →
        l.toNat ≤ 250 → rest.length = l.toNat + 1 → exec (.surveyFrameOverrun tail) s = dropped)) ∧
    (s.uart.timer = true →
      (s.uart.rx = .receive →
        exec .interByteTimeout s =
          .next (s.answeredAtOnce .survey (match s.uart.buf with | _ :: type :: _ => type | _ => 0) (refusal .frame))) ∧
      (s.uart.rx = .discard → exec .interByteTimeout s = dropped)) ∧
    (s.uart.timer = false → exec .interByteTimeout s = .next s)) ∧
  (∀ (s : State), s.supply.vdd = true → s.supply.restartDue = false →
    (∀ o, s.uart.out = some o →
      exec (.operationAnswer .survey) s = .next { s with uart := { s.uart with out := some { o with sending := true } } } ∧
      (o.sending = true →
        exec .responseSent s =
          .next { s with
            uart := { s.uart with out := none }
            pins := { s.pins with txd := surveyFrame o.code o.reply } }) ∧
      (o.sending = false → exec .responseSent s = .next s)) ∧
    (s.uart.out = none → exec (.operationAnswer .survey) s = .next s ∧ exec .responseSent s = .next s))

/-- Decoding undoes encoding on both ports: the frame of a well-formed request, with every field at every value, is judged to be that
request (chapter 9), and receiving it does what the request's own row does (the model's choice of what a row stands for, log 6). -/
def Obligations.AFrameIsTakenAsItsRequest : Prop :=
  ∀ (i : Instr) (p : Port) (r : Req) (frame : List Byte) (s : State),
    i.request = some (p, r) → i.wellFormed = true → encodeFrame i = some frame →
    (p = .meter → judgeMeter frame = .good i ∧
      (s.portOpen .meter (encodePayload i).length = true → exec (.meterFrameReject frame) s = exec i s)) ∧
    (p = .survey → judgeSurvey frame = .good i ∧
      (s.portOpen .survey (encodePayload i).length = true →
        exec (.surveyFrameReject (0xA5 :: frame)) s = exec i s))

/-! ## Invariants -/

/-- Every step keeps the clock's form (section 1.4), the base table's order and ranges (section 6.1), the reserved event bits clear (section
9.5), the latitude-factor cache true to its key (section 3.5) and the quiet window within its bounds (sections 4.5 and 4.6). -/
def Obligations.StepKeepsTheBlocksInvariants : Prop :=
  ∀ s t : State, step s = .next t →
    (s.clockInv → t.clockInv) ∧ (s.baseInv → t.baseInv) ∧ (s.eventInv → t.eventInv) ∧ (s.cacheInv → t.cacheInv) ∧
      (s.windowInv → t.windowInv)

/-- Every step keeps the log's form, the one ACTIVE record, and the ties' agreement with the base table (sections 4.3, 5.1 and 6.1). -/
def Obligations.StepKeepsTheRecords : Prop :=
  ∀ s t : State, step s = .next t → s.recordInv → t.recordInv

/-- Every step keeps the closure queue's form (section 6.6), and every record's reduced value equal to its mean minus its drift (sections 6.5
and 6.6). -/
def Obligations.StepKeepsQueueAndReductions : Prop :=
  ∀ s t : State, step s = .next t → (s.queueInv → t.queueInv) ∧ (s.reducedInv → t.reducedInv)

/-- Every step keeps the working copy in range, and every block that is not dirty equal to what its image holds (chapter 8). -/
def Obligations.StepKeepsTheStore : Prop :=
  ∀ s t : State, step s = .next t → s.storeInv → t.storeInv

/-- State.reset has every invariant. -/
def Obligations.ResetHasEveryInvariant : Prop :=
  State.reset.clockInv ∧ State.reset.baseInv ∧ State.reset.eventInv ∧ State.reset.cacheInv ∧ State.reset.windowInv ∧
    State.reset.recordInv ∧ State.reset.queueInv ∧ State.reset.reducedInv ∧ State.reset.storeInv

end
end

