-- ==== Sys2Proof/Laws/Bases.lean ====
section
/-! SUPPORT. The base table (R108 to R110): what an entry added or removed leaves. -/

namespace Sys2Proof.Machine

/-- Adding an entry leaves the entries of other ids (R109). -/
theorem findBase_insertBase_ne (id v) (l : List BaseEntry) (x : Nat) (hx : x ≠ id) : findBase (insertBase id v l) x = findBase l x := by
  induction l with
  | nil => simp [findBase, insertBase]; exact fun h => hx h.symm
  | cons e es ih =>
    unfold insertBase; split
    · simp [findBase, List.find?_cons]
      have : (id == x) = false := by simp; exact fun h => hx h.symm
      simp [this]
    · split
      · rename_i hh; subst hh
        have : (e.id == x) = false := by simp; exact fun h => hx h.symm
        simp [findBase, this]
      · simp only [findBase, List.find?_cons] at ih ⊢; rw [ih]

/-- An added entry is found (R109). -/
theorem findBase_insertBase_self (id v) (l : List BaseEntry) : (findBase (insertBase id v l) id).isSome := by
  induction l with
  | nil => simp [findBase, insertBase]
  | cons e es ih =>
    unfold insertBase; split
    · simp [findBase]
    · split
      · simp [findBase]
      · simp only [findBase, List.find?_cons] at ih ⊢; split <;> simp_all

/-- Removing an entry leaves the entries of other ids (R110). -/
theorem findBase_removeBase_ne (id) (l : List BaseEntry) (x : Nat) (hx : x ≠ id) : findBase (removeBase id l) x = findBase l x := by
  unfold findBase removeBase
  rw [List.find?_filter]
  congr 1; funext e
  by_cases h : e.id = x
  · simp [h, hx]
  · simp [h]

end Sys2Proof.Machine
end

