-- ==== Sys2Proof/Laws/State.lean ====
section
/-! SUPPORT. One lemma per field per named update of the state: what the update leaves in that field. All true by `rfl`, so that no
proof unfolds a record update. Below them, the same for raising an event. -/

namespace Sys2Proof.Machine

/-! ## `State.setClock` -/

section
variable (s : State) (x : Clock)
@[simp] theorem State.setClock_clock : (s.setClock x).clock = x := rfl
@[simp] theorem State.setClock_survey : (s.setClock x).survey = s.survey := rfl
@[simp] theorem State.setClock_bases : (s.setClock x).bases = s.bases := rfl
@[simp] theorem State.setClock_loop : (s.setClock x).loop = s.loop := rfl
@[simp] theorem State.setClock_queue : (s.setClock x).queue = s.queue := rfl
@[simp] theorem State.setClock_log : (s.setClock x).log = s.log := rfl
@[simp] theorem State.setClock_mark : (s.setClock x).mark = s.mark := rfl
@[simp] theorem State.setClock_meter : (s.setClock x).meter = s.meter := rfl
@[simp] theorem State.setClock_uart : (s.setClock x).uart = s.uart := rfl
@[simp] theorem State.setClock_chain : (s.setClock x).chain = s.chain := rfl
@[simp] theorem State.setClock_cache : (s.setClock x).cache = s.cache := rfl
@[simp] theorem State.setClock_occ : (s.setClock x).occ = s.occ := rfl
@[simp] theorem State.setClock_closurePos : (s.setClock x).closurePos = s.closurePos := rfl
@[simp] theorem State.setClock_pendingPos : (s.setClock x).pendingPos = s.pendingPos := rfl
@[simp] theorem State.setClock_store : (s.setClock x).store = s.store := rfl
@[simp] theorem State.setClock_nv : (s.setClock x).nv = s.nv := rfl
@[simp] theorem State.setClock_supply : (s.setClock x).supply = s.supply := rfl
@[simp] theorem State.setClock_startUp : (s.setClock x).startUp = s.startUp := rfl
@[simp] theorem State.setClock_pins : (s.setClock x).pins = s.pins := rfl
@[simp] theorem State.setClock_free : (s.setClock x).free = s.free := rfl
@[simp] theorem State.setClock_pauses : (s.setClock x).pauses = s.pauses := rfl
@[simp] theorem State.setClock_pending : (s.setClock x).pending = s.pending := rfl
end

/-! ## `State.setSurvey` -/

section
variable (s : State) (x : SurveyCtl)
@[simp] theorem State.setSurvey_clock : (s.setSurvey x).clock = s.clock := rfl
@[simp] theorem State.setSurvey_survey : (s.setSurvey x).survey = x := rfl
@[simp] theorem State.setSurvey_bases : (s.setSurvey x).bases = s.bases := rfl
@[simp] theorem State.setSurvey_loop : (s.setSurvey x).loop = s.loop := rfl
@[simp] theorem State.setSurvey_queue : (s.setSurvey x).queue = s.queue := rfl
@[simp] theorem State.setSurvey_log : (s.setSurvey x).log = s.log := rfl
@[simp] theorem State.setSurvey_mark : (s.setSurvey x).mark = s.mark := rfl
@[simp] theorem State.setSurvey_meter : (s.setSurvey x).meter = s.meter := rfl
@[simp] theorem State.setSurvey_uart : (s.setSurvey x).uart = s.uart := rfl
@[simp] theorem State.setSurvey_chain : (s.setSurvey x).chain = s.chain := rfl
@[simp] theorem State.setSurvey_cache : (s.setSurvey x).cache = s.cache := rfl
@[simp] theorem State.setSurvey_occ : (s.setSurvey x).occ = s.occ := rfl
@[simp] theorem State.setSurvey_closurePos : (s.setSurvey x).closurePos = s.closurePos := rfl
@[simp] theorem State.setSurvey_pendingPos : (s.setSurvey x).pendingPos = s.pendingPos := rfl
@[simp] theorem State.setSurvey_store : (s.setSurvey x).store = s.store := rfl
@[simp] theorem State.setSurvey_nv : (s.setSurvey x).nv = s.nv := rfl
@[simp] theorem State.setSurvey_supply : (s.setSurvey x).supply = s.supply := rfl
@[simp] theorem State.setSurvey_startUp : (s.setSurvey x).startUp = s.startUp := rfl
@[simp] theorem State.setSurvey_pins : (s.setSurvey x).pins = s.pins := rfl
@[simp] theorem State.setSurvey_free : (s.setSurvey x).free = s.free := rfl
@[simp] theorem State.setSurvey_pauses : (s.setSurvey x).pauses = s.pauses := rfl
@[simp] theorem State.setSurvey_pending : (s.setSurvey x).pending = s.pending := rfl
end

/-! ## `State.setBases` -/

section
variable (s : State) (x : List BaseEntry)
@[simp] theorem State.setBases_clock : (s.setBases x).clock = s.clock := rfl
@[simp] theorem State.setBases_survey : (s.setBases x).survey = s.survey := rfl
@[simp] theorem State.setBases_bases : (s.setBases x).bases = x := rfl
@[simp] theorem State.setBases_loop : (s.setBases x).loop = s.loop := rfl
@[simp] theorem State.setBases_queue : (s.setBases x).queue = s.queue := rfl
@[simp] theorem State.setBases_log : (s.setBases x).log = s.log := rfl
@[simp] theorem State.setBases_mark : (s.setBases x).mark = s.mark := rfl
@[simp] theorem State.setBases_meter : (s.setBases x).meter = s.meter := rfl
@[simp] theorem State.setBases_uart : (s.setBases x).uart = s.uart := rfl
@[simp] theorem State.setBases_chain : (s.setBases x).chain = s.chain := rfl
@[simp] theorem State.setBases_cache : (s.setBases x).cache = s.cache := rfl
@[simp] theorem State.setBases_occ : (s.setBases x).occ = s.occ := rfl
@[simp] theorem State.setBases_closurePos : (s.setBases x).closurePos = s.closurePos := rfl
@[simp] theorem State.setBases_pendingPos : (s.setBases x).pendingPos = s.pendingPos := rfl
@[simp] theorem State.setBases_store : (s.setBases x).store = s.store := rfl
@[simp] theorem State.setBases_nv : (s.setBases x).nv = s.nv := rfl
@[simp] theorem State.setBases_supply : (s.setBases x).supply = s.supply := rfl
@[simp] theorem State.setBases_startUp : (s.setBases x).startUp = s.startUp := rfl
@[simp] theorem State.setBases_pins : (s.setBases x).pins = s.pins := rfl
@[simp] theorem State.setBases_free : (s.setBases x).free = s.free := rfl
@[simp] theorem State.setBases_pauses : (s.setBases x).pauses = s.pauses := rfl
@[simp] theorem State.setBases_pending : (s.setBases x).pending = s.pending := rfl
end

/-! ## `State.setLoop` -/

section
variable (s : State) (x : LoopCtx)
@[simp] theorem State.setLoop_clock : (s.setLoop x).clock = s.clock := rfl
@[simp] theorem State.setLoop_survey : (s.setLoop x).survey = s.survey := rfl
@[simp] theorem State.setLoop_bases : (s.setLoop x).bases = s.bases := rfl
@[simp] theorem State.setLoop_loop : (s.setLoop x).loop = x := rfl
@[simp] theorem State.setLoop_queue : (s.setLoop x).queue = s.queue := rfl
@[simp] theorem State.setLoop_log : (s.setLoop x).log = s.log := rfl
@[simp] theorem State.setLoop_mark : (s.setLoop x).mark = s.mark := rfl
@[simp] theorem State.setLoop_meter : (s.setLoop x).meter = s.meter := rfl
@[simp] theorem State.setLoop_uart : (s.setLoop x).uart = s.uart := rfl
@[simp] theorem State.setLoop_chain : (s.setLoop x).chain = s.chain := rfl
@[simp] theorem State.setLoop_cache : (s.setLoop x).cache = s.cache := rfl
@[simp] theorem State.setLoop_occ : (s.setLoop x).occ = s.occ := rfl
@[simp] theorem State.setLoop_closurePos : (s.setLoop x).closurePos = s.closurePos := rfl
@[simp] theorem State.setLoop_pendingPos : (s.setLoop x).pendingPos = s.pendingPos := rfl
@[simp] theorem State.setLoop_store : (s.setLoop x).store = s.store := rfl
@[simp] theorem State.setLoop_nv : (s.setLoop x).nv = s.nv := rfl
@[simp] theorem State.setLoop_supply : (s.setLoop x).supply = s.supply := rfl
@[simp] theorem State.setLoop_startUp : (s.setLoop x).startUp = s.startUp := rfl
@[simp] theorem State.setLoop_pins : (s.setLoop x).pins = s.pins := rfl
@[simp] theorem State.setLoop_free : (s.setLoop x).free = s.free := rfl
@[simp] theorem State.setLoop_pauses : (s.setLoop x).pauses = s.pauses := rfl
@[simp] theorem State.setLoop_pending : (s.setLoop x).pending = s.pending := rfl
end

/-! ## `State.setQueue` -/

section
variable (s : State) (x : List ClosureEntry)
@[simp] theorem State.setQueue_clock : (s.setQueue x).clock = s.clock := rfl
@[simp] theorem State.setQueue_survey : (s.setQueue x).survey = s.survey := rfl
@[simp] theorem State.setQueue_bases : (s.setQueue x).bases = s.bases := rfl
@[simp] theorem State.setQueue_loop : (s.setQueue x).loop = s.loop := rfl
@[simp] theorem State.setQueue_queue : (s.setQueue x).queue = x := rfl
@[simp] theorem State.setQueue_log : (s.setQueue x).log = s.log := rfl
@[simp] theorem State.setQueue_mark : (s.setQueue x).mark = s.mark := rfl
@[simp] theorem State.setQueue_meter : (s.setQueue x).meter = s.meter := rfl
@[simp] theorem State.setQueue_uart : (s.setQueue x).uart = s.uart := rfl
@[simp] theorem State.setQueue_chain : (s.setQueue x).chain = s.chain := rfl
@[simp] theorem State.setQueue_cache : (s.setQueue x).cache = s.cache := rfl
@[simp] theorem State.setQueue_occ : (s.setQueue x).occ = s.occ := rfl
@[simp] theorem State.setQueue_closurePos : (s.setQueue x).closurePos = s.closurePos := rfl
@[simp] theorem State.setQueue_pendingPos : (s.setQueue x).pendingPos = s.pendingPos := rfl
@[simp] theorem State.setQueue_store : (s.setQueue x).store = s.store := rfl
@[simp] theorem State.setQueue_nv : (s.setQueue x).nv = s.nv := rfl
@[simp] theorem State.setQueue_supply : (s.setQueue x).supply = s.supply := rfl
@[simp] theorem State.setQueue_startUp : (s.setQueue x).startUp = s.startUp := rfl
@[simp] theorem State.setQueue_pins : (s.setQueue x).pins = s.pins := rfl
@[simp] theorem State.setQueue_free : (s.setQueue x).free = s.free := rfl
@[simp] theorem State.setQueue_pauses : (s.setQueue x).pauses = s.pauses := rfl
@[simp] theorem State.setQueue_pending : (s.setQueue x).pending = s.pending := rfl
end

/-! ## `State.setLog` -/

section
variable (s : State) (x : Log)
@[simp] theorem State.setLog_clock : (s.setLog x).clock = s.clock := rfl
@[simp] theorem State.setLog_survey : (s.setLog x).survey = s.survey := rfl
@[simp] theorem State.setLog_bases : (s.setLog x).bases = s.bases := rfl
@[simp] theorem State.setLog_loop : (s.setLog x).loop = s.loop := rfl
@[simp] theorem State.setLog_queue : (s.setLog x).queue = s.queue := rfl
@[simp] theorem State.setLog_log : (s.setLog x).log = x := rfl
@[simp] theorem State.setLog_mark : (s.setLog x).mark = s.mark := rfl
@[simp] theorem State.setLog_meter : (s.setLog x).meter = s.meter := rfl
@[simp] theorem State.setLog_uart : (s.setLog x).uart = s.uart := rfl
@[simp] theorem State.setLog_chain : (s.setLog x).chain = s.chain := rfl
@[simp] theorem State.setLog_cache : (s.setLog x).cache = s.cache := rfl
@[simp] theorem State.setLog_occ : (s.setLog x).occ = s.occ := rfl
@[simp] theorem State.setLog_closurePos : (s.setLog x).closurePos = s.closurePos := rfl
@[simp] theorem State.setLog_pendingPos : (s.setLog x).pendingPos = s.pendingPos := rfl
@[simp] theorem State.setLog_store : (s.setLog x).store = s.store := rfl
@[simp] theorem State.setLog_nv : (s.setLog x).nv = s.nv := rfl
@[simp] theorem State.setLog_supply : (s.setLog x).supply = s.supply := rfl
@[simp] theorem State.setLog_startUp : (s.setLog x).startUp = s.startUp := rfl
@[simp] theorem State.setLog_pins : (s.setLog x).pins = s.pins := rfl
@[simp] theorem State.setLog_free : (s.setLog x).free = s.free := rfl
@[simp] theorem State.setLog_pauses : (s.setLog x).pauses = s.pauses := rfl
@[simp] theorem State.setLog_pending : (s.setLog x).pending = s.pending := rfl
end

/-! ## `State.setMeter` -/

section
variable (s : State) (x : MeterPort)
@[simp] theorem State.setMeter_clock : (s.setMeter x).clock = s.clock := rfl
@[simp] theorem State.setMeter_survey : (s.setMeter x).survey = s.survey := rfl
@[simp] theorem State.setMeter_bases : (s.setMeter x).bases = s.bases := rfl
@[simp] theorem State.setMeter_loop : (s.setMeter x).loop = s.loop := rfl
@[simp] theorem State.setMeter_queue : (s.setMeter x).queue = s.queue := rfl
@[simp] theorem State.setMeter_log : (s.setMeter x).log = s.log := rfl
@[simp] theorem State.setMeter_mark : (s.setMeter x).mark = s.mark := rfl
@[simp] theorem State.setMeter_meter : (s.setMeter x).meter = x := rfl
@[simp] theorem State.setMeter_uart : (s.setMeter x).uart = s.uart := rfl
@[simp] theorem State.setMeter_chain : (s.setMeter x).chain = s.chain := rfl
@[simp] theorem State.setMeter_cache : (s.setMeter x).cache = s.cache := rfl
@[simp] theorem State.setMeter_occ : (s.setMeter x).occ = s.occ := rfl
@[simp] theorem State.setMeter_closurePos : (s.setMeter x).closurePos = s.closurePos := rfl
@[simp] theorem State.setMeter_pendingPos : (s.setMeter x).pendingPos = s.pendingPos := rfl
@[simp] theorem State.setMeter_store : (s.setMeter x).store = s.store := rfl
@[simp] theorem State.setMeter_nv : (s.setMeter x).nv = s.nv := rfl
@[simp] theorem State.setMeter_supply : (s.setMeter x).supply = s.supply := rfl
@[simp] theorem State.setMeter_startUp : (s.setMeter x).startUp = s.startUp := rfl
@[simp] theorem State.setMeter_pins : (s.setMeter x).pins = s.pins := rfl
@[simp] theorem State.setMeter_free : (s.setMeter x).free = s.free := rfl
@[simp] theorem State.setMeter_pauses : (s.setMeter x).pauses = s.pauses := rfl
@[simp] theorem State.setMeter_pending : (s.setMeter x).pending = s.pending := rfl
end

/-! ## `State.setUart` -/

section
variable (s : State) (x : SurveyPort)
@[simp] theorem State.setUart_clock : (s.setUart x).clock = s.clock := rfl
@[simp] theorem State.setUart_survey : (s.setUart x).survey = s.survey := rfl
@[simp] theorem State.setUart_bases : (s.setUart x).bases = s.bases := rfl
@[simp] theorem State.setUart_loop : (s.setUart x).loop = s.loop := rfl
@[simp] theorem State.setUart_queue : (s.setUart x).queue = s.queue := rfl
@[simp] theorem State.setUart_log : (s.setUart x).log = s.log := rfl
@[simp] theorem State.setUart_mark : (s.setUart x).mark = s.mark := rfl
@[simp] theorem State.setUart_meter : (s.setUart x).meter = s.meter := rfl
@[simp] theorem State.setUart_uart : (s.setUart x).uart = x := rfl
@[simp] theorem State.setUart_chain : (s.setUart x).chain = s.chain := rfl
@[simp] theorem State.setUart_cache : (s.setUart x).cache = s.cache := rfl
@[simp] theorem State.setUart_occ : (s.setUart x).occ = s.occ := rfl
@[simp] theorem State.setUart_closurePos : (s.setUart x).closurePos = s.closurePos := rfl
@[simp] theorem State.setUart_pendingPos : (s.setUart x).pendingPos = s.pendingPos := rfl
@[simp] theorem State.setUart_store : (s.setUart x).store = s.store := rfl
@[simp] theorem State.setUart_nv : (s.setUart x).nv = s.nv := rfl
@[simp] theorem State.setUart_supply : (s.setUart x).supply = s.supply := rfl
@[simp] theorem State.setUart_startUp : (s.setUart x).startUp = s.startUp := rfl
@[simp] theorem State.setUart_pins : (s.setUart x).pins = s.pins := rfl
@[simp] theorem State.setUart_free : (s.setUart x).free = s.free := rfl
@[simp] theorem State.setUart_pauses : (s.setUart x).pauses = s.pauses := rfl
@[simp] theorem State.setUart_pending : (s.setUart x).pending = s.pending := rfl
end

/-! ## `State.setChain` -/

section
variable (s : State) (x : Chain)
@[simp] theorem State.setChain_clock : (s.setChain x).clock = s.clock := rfl
@[simp] theorem State.setChain_survey : (s.setChain x).survey = s.survey := rfl
@[simp] theorem State.setChain_bases : (s.setChain x).bases = s.bases := rfl
@[simp] theorem State.setChain_loop : (s.setChain x).loop = s.loop := rfl
@[simp] theorem State.setChain_queue : (s.setChain x).queue = s.queue := rfl
@[simp] theorem State.setChain_log : (s.setChain x).log = s.log := rfl
@[simp] theorem State.setChain_mark : (s.setChain x).mark = s.mark := rfl
@[simp] theorem State.setChain_meter : (s.setChain x).meter = s.meter := rfl
@[simp] theorem State.setChain_uart : (s.setChain x).uart = s.uart := rfl
@[simp] theorem State.setChain_chain : (s.setChain x).chain = x := rfl
@[simp] theorem State.setChain_cache : (s.setChain x).cache = s.cache := rfl
@[simp] theorem State.setChain_occ : (s.setChain x).occ = s.occ := rfl
@[simp] theorem State.setChain_closurePos : (s.setChain x).closurePos = s.closurePos := rfl
@[simp] theorem State.setChain_pendingPos : (s.setChain x).pendingPos = s.pendingPos := rfl
@[simp] theorem State.setChain_store : (s.setChain x).store = s.store := rfl
@[simp] theorem State.setChain_nv : (s.setChain x).nv = s.nv := rfl
@[simp] theorem State.setChain_supply : (s.setChain x).supply = s.supply := rfl
@[simp] theorem State.setChain_startUp : (s.setChain x).startUp = s.startUp := rfl
@[simp] theorem State.setChain_pins : (s.setChain x).pins = s.pins := rfl
@[simp] theorem State.setChain_free : (s.setChain x).free = s.free := rfl
@[simp] theorem State.setChain_pauses : (s.setChain x).pauses = s.pauses := rfl
@[simp] theorem State.setChain_pending : (s.setChain x).pending = s.pending := rfl
end

/-! ## `State.setCache` -/

section
variable (s : State) (x : Option CacheEntry)
@[simp] theorem State.setCache_clock : (s.setCache x).clock = s.clock := rfl
@[simp] theorem State.setCache_survey : (s.setCache x).survey = s.survey := rfl
@[simp] theorem State.setCache_bases : (s.setCache x).bases = s.bases := rfl
@[simp] theorem State.setCache_loop : (s.setCache x).loop = s.loop := rfl
@[simp] theorem State.setCache_queue : (s.setCache x).queue = s.queue := rfl
@[simp] theorem State.setCache_log : (s.setCache x).log = s.log := rfl
@[simp] theorem State.setCache_mark : (s.setCache x).mark = s.mark := rfl
@[simp] theorem State.setCache_meter : (s.setCache x).meter = s.meter := rfl
@[simp] theorem State.setCache_uart : (s.setCache x).uart = s.uart := rfl
@[simp] theorem State.setCache_chain : (s.setCache x).chain = s.chain := rfl
@[simp] theorem State.setCache_cache : (s.setCache x).cache = x := rfl
@[simp] theorem State.setCache_occ : (s.setCache x).occ = s.occ := rfl
@[simp] theorem State.setCache_closurePos : (s.setCache x).closurePos = s.closurePos := rfl
@[simp] theorem State.setCache_pendingPos : (s.setCache x).pendingPos = s.pendingPos := rfl
@[simp] theorem State.setCache_store : (s.setCache x).store = s.store := rfl
@[simp] theorem State.setCache_nv : (s.setCache x).nv = s.nv := rfl
@[simp] theorem State.setCache_supply : (s.setCache x).supply = s.supply := rfl
@[simp] theorem State.setCache_startUp : (s.setCache x).startUp = s.startUp := rfl
@[simp] theorem State.setCache_pins : (s.setCache x).pins = s.pins := rfl
@[simp] theorem State.setCache_free : (s.setCache x).free = s.free := rfl
@[simp] theorem State.setCache_pauses : (s.setCache x).pauses = s.pauses := rfl
@[simp] theorem State.setCache_pending : (s.setCache x).pending = s.pending := rfl
end

/-! ## `State.setOcc` -/

section
variable (s : State) (x : Occupation)
@[simp] theorem State.setOcc_clock : (s.setOcc x).clock = s.clock := rfl
@[simp] theorem State.setOcc_survey : (s.setOcc x).survey = s.survey := rfl
@[simp] theorem State.setOcc_bases : (s.setOcc x).bases = s.bases := rfl
@[simp] theorem State.setOcc_loop : (s.setOcc x).loop = s.loop := rfl
@[simp] theorem State.setOcc_queue : (s.setOcc x).queue = s.queue := rfl
@[simp] theorem State.setOcc_log : (s.setOcc x).log = s.log := rfl
@[simp] theorem State.setOcc_mark : (s.setOcc x).mark = s.mark := rfl
@[simp] theorem State.setOcc_meter : (s.setOcc x).meter = s.meter := rfl
@[simp] theorem State.setOcc_uart : (s.setOcc x).uart = s.uart := rfl
@[simp] theorem State.setOcc_chain : (s.setOcc x).chain = s.chain := rfl
@[simp] theorem State.setOcc_cache : (s.setOcc x).cache = s.cache := rfl
@[simp] theorem State.setOcc_occ : (s.setOcc x).occ = x := rfl
@[simp] theorem State.setOcc_closurePos : (s.setOcc x).closurePos = s.closurePos := rfl
@[simp] theorem State.setOcc_pendingPos : (s.setOcc x).pendingPos = s.pendingPos := rfl
@[simp] theorem State.setOcc_store : (s.setOcc x).store = s.store := rfl
@[simp] theorem State.setOcc_nv : (s.setOcc x).nv = s.nv := rfl
@[simp] theorem State.setOcc_supply : (s.setOcc x).supply = s.supply := rfl
@[simp] theorem State.setOcc_startUp : (s.setOcc x).startUp = s.startUp := rfl
@[simp] theorem State.setOcc_pins : (s.setOcc x).pins = s.pins := rfl
@[simp] theorem State.setOcc_free : (s.setOcc x).free = s.free := rfl
@[simp] theorem State.setOcc_pauses : (s.setOcc x).pauses = s.pauses := rfl
@[simp] theorem State.setOcc_pending : (s.setOcc x).pending = s.pending := rfl
end

/-! ## `State.setClosurePos` -/

section
variable (s : State) (x : Option Nat)
@[simp] theorem State.setClosurePos_clock : (s.setClosurePos x).clock = s.clock := rfl
@[simp] theorem State.setClosurePos_survey : (s.setClosurePos x).survey = s.survey := rfl
@[simp] theorem State.setClosurePos_bases : (s.setClosurePos x).bases = s.bases := rfl
@[simp] theorem State.setClosurePos_loop : (s.setClosurePos x).loop = s.loop := rfl
@[simp] theorem State.setClosurePos_queue : (s.setClosurePos x).queue = s.queue := rfl
@[simp] theorem State.setClosurePos_log : (s.setClosurePos x).log = s.log := rfl
@[simp] theorem State.setClosurePos_mark : (s.setClosurePos x).mark = s.mark := rfl
@[simp] theorem State.setClosurePos_meter : (s.setClosurePos x).meter = s.meter := rfl
@[simp] theorem State.setClosurePos_uart : (s.setClosurePos x).uart = s.uart := rfl
@[simp] theorem State.setClosurePos_chain : (s.setClosurePos x).chain = s.chain := rfl
@[simp] theorem State.setClosurePos_cache : (s.setClosurePos x).cache = s.cache := rfl
@[simp] theorem State.setClosurePos_occ : (s.setClosurePos x).occ = s.occ := rfl
@[simp] theorem State.setClosurePos_closurePos : (s.setClosurePos x).closurePos = x := rfl
@[simp] theorem State.setClosurePos_pendingPos : (s.setClosurePos x).pendingPos = s.pendingPos := rfl
@[simp] theorem State.setClosurePos_store : (s.setClosurePos x).store = s.store := rfl
@[simp] theorem State.setClosurePos_nv : (s.setClosurePos x).nv = s.nv := rfl
@[simp] theorem State.setClosurePos_supply : (s.setClosurePos x).supply = s.supply := rfl
@[simp] theorem State.setClosurePos_startUp : (s.setClosurePos x).startUp = s.startUp := rfl
@[simp] theorem State.setClosurePos_pins : (s.setClosurePos x).pins = s.pins := rfl
@[simp] theorem State.setClosurePos_free : (s.setClosurePos x).free = s.free := rfl
@[simp] theorem State.setClosurePos_pauses : (s.setClosurePos x).pauses = s.pauses := rfl
@[simp] theorem State.setClosurePos_pending : (s.setClosurePos x).pending = s.pending := rfl
end

/-! ## `State.setPendingPos` -/

section
variable (s : State) (x : Option Position)
@[simp] theorem State.setPendingPos_clock : (s.setPendingPos x).clock = s.clock := rfl
@[simp] theorem State.setPendingPos_survey : (s.setPendingPos x).survey = s.survey := rfl
@[simp] theorem State.setPendingPos_bases : (s.setPendingPos x).bases = s.bases := rfl
@[simp] theorem State.setPendingPos_loop : (s.setPendingPos x).loop = s.loop := rfl
@[simp] theorem State.setPendingPos_queue : (s.setPendingPos x).queue = s.queue := rfl
@[simp] theorem State.setPendingPos_log : (s.setPendingPos x).log = s.log := rfl
@[simp] theorem State.setPendingPos_mark : (s.setPendingPos x).mark = s.mark := rfl
@[simp] theorem State.setPendingPos_meter : (s.setPendingPos x).meter = s.meter := rfl
@[simp] theorem State.setPendingPos_uart : (s.setPendingPos x).uart = s.uart := rfl
@[simp] theorem State.setPendingPos_chain : (s.setPendingPos x).chain = s.chain := rfl
@[simp] theorem State.setPendingPos_cache : (s.setPendingPos x).cache = s.cache := rfl
@[simp] theorem State.setPendingPos_occ : (s.setPendingPos x).occ = s.occ := rfl
@[simp] theorem State.setPendingPos_closurePos : (s.setPendingPos x).closurePos = s.closurePos := rfl
@[simp] theorem State.setPendingPos_pendingPos : (s.setPendingPos x).pendingPos = x := rfl
@[simp] theorem State.setPendingPos_store : (s.setPendingPos x).store = s.store := rfl
@[simp] theorem State.setPendingPos_nv : (s.setPendingPos x).nv = s.nv := rfl
@[simp] theorem State.setPendingPos_supply : (s.setPendingPos x).supply = s.supply := rfl
@[simp] theorem State.setPendingPos_startUp : (s.setPendingPos x).startUp = s.startUp := rfl
@[simp] theorem State.setPendingPos_pins : (s.setPendingPos x).pins = s.pins := rfl
@[simp] theorem State.setPendingPos_free : (s.setPendingPos x).free = s.free := rfl
@[simp] theorem State.setPendingPos_pauses : (s.setPendingPos x).pauses = s.pauses := rfl
@[simp] theorem State.setPendingPos_pending : (s.setPendingPos x).pending = s.pending := rfl
end

/-! ## `State.setStore` -/

section
variable (s : State) (x : Store)
@[simp] theorem State.setStore_clock : (s.setStore x).clock = s.clock := rfl
@[simp] theorem State.setStore_survey : (s.setStore x).survey = s.survey := rfl
@[simp] theorem State.setStore_bases : (s.setStore x).bases = s.bases := rfl
@[simp] theorem State.setStore_loop : (s.setStore x).loop = s.loop := rfl
@[simp] theorem State.setStore_queue : (s.setStore x).queue = s.queue := rfl
@[simp] theorem State.setStore_log : (s.setStore x).log = s.log := rfl
@[simp] theorem State.setStore_mark : (s.setStore x).mark = s.mark := rfl
@[simp] theorem State.setStore_meter : (s.setStore x).meter = s.meter := rfl
@[simp] theorem State.setStore_uart : (s.setStore x).uart = s.uart := rfl
@[simp] theorem State.setStore_chain : (s.setStore x).chain = s.chain := rfl
@[simp] theorem State.setStore_cache : (s.setStore x).cache = s.cache := rfl
@[simp] theorem State.setStore_occ : (s.setStore x).occ = s.occ := rfl
@[simp] theorem State.setStore_closurePos : (s.setStore x).closurePos = s.closurePos := rfl
@[simp] theorem State.setStore_pendingPos : (s.setStore x).pendingPos = s.pendingPos := rfl
@[simp] theorem State.setStore_store : (s.setStore x).store = x := rfl
@[simp] theorem State.setStore_nv : (s.setStore x).nv = s.nv := rfl
@[simp] theorem State.setStore_supply : (s.setStore x).supply = s.supply := rfl
@[simp] theorem State.setStore_startUp : (s.setStore x).startUp = s.startUp := rfl
@[simp] theorem State.setStore_pins : (s.setStore x).pins = s.pins := rfl
@[simp] theorem State.setStore_free : (s.setStore x).free = s.free := rfl
@[simp] theorem State.setStore_pauses : (s.setStore x).pauses = s.pauses := rfl
@[simp] theorem State.setStore_pending : (s.setStore x).pending = s.pending := rfl
end

/-! ## `State.setNv` -/

section
variable (s : State) (x : Images)
@[simp] theorem State.setNv_clock : (s.setNv x).clock = s.clock := rfl
@[simp] theorem State.setNv_survey : (s.setNv x).survey = s.survey := rfl
@[simp] theorem State.setNv_bases : (s.setNv x).bases = s.bases := rfl
@[simp] theorem State.setNv_loop : (s.setNv x).loop = s.loop := rfl
@[simp] theorem State.setNv_queue : (s.setNv x).queue = s.queue := rfl
@[simp] theorem State.setNv_log : (s.setNv x).log = s.log := rfl
@[simp] theorem State.setNv_mark : (s.setNv x).mark = s.mark := rfl
@[simp] theorem State.setNv_meter : (s.setNv x).meter = s.meter := rfl
@[simp] theorem State.setNv_uart : (s.setNv x).uart = s.uart := rfl
@[simp] theorem State.setNv_chain : (s.setNv x).chain = s.chain := rfl
@[simp] theorem State.setNv_cache : (s.setNv x).cache = s.cache := rfl
@[simp] theorem State.setNv_occ : (s.setNv x).occ = s.occ := rfl
@[simp] theorem State.setNv_closurePos : (s.setNv x).closurePos = s.closurePos := rfl
@[simp] theorem State.setNv_pendingPos : (s.setNv x).pendingPos = s.pendingPos := rfl
@[simp] theorem State.setNv_store : (s.setNv x).store = s.store := rfl
@[simp] theorem State.setNv_nv : (s.setNv x).nv = x := rfl
@[simp] theorem State.setNv_supply : (s.setNv x).supply = s.supply := rfl
@[simp] theorem State.setNv_startUp : (s.setNv x).startUp = s.startUp := rfl
@[simp] theorem State.setNv_pins : (s.setNv x).pins = s.pins := rfl
@[simp] theorem State.setNv_free : (s.setNv x).free = s.free := rfl
@[simp] theorem State.setNv_pauses : (s.setNv x).pauses = s.pauses := rfl
@[simp] theorem State.setNv_pending : (s.setNv x).pending = s.pending := rfl
end

/-! ## `State.setSupply` -/

section
variable (s : State) (x : Supply)
@[simp] theorem State.setSupply_clock : (s.setSupply x).clock = s.clock := rfl
@[simp] theorem State.setSupply_survey : (s.setSupply x).survey = s.survey := rfl
@[simp] theorem State.setSupply_bases : (s.setSupply x).bases = s.bases := rfl
@[simp] theorem State.setSupply_loop : (s.setSupply x).loop = s.loop := rfl
@[simp] theorem State.setSupply_queue : (s.setSupply x).queue = s.queue := rfl
@[simp] theorem State.setSupply_log : (s.setSupply x).log = s.log := rfl
@[simp] theorem State.setSupply_mark : (s.setSupply x).mark = s.mark := rfl
@[simp] theorem State.setSupply_meter : (s.setSupply x).meter = s.meter := rfl
@[simp] theorem State.setSupply_uart : (s.setSupply x).uart = s.uart := rfl
@[simp] theorem State.setSupply_chain : (s.setSupply x).chain = s.chain := rfl
@[simp] theorem State.setSupply_cache : (s.setSupply x).cache = s.cache := rfl
@[simp] theorem State.setSupply_occ : (s.setSupply x).occ = s.occ := rfl
@[simp] theorem State.setSupply_closurePos : (s.setSupply x).closurePos = s.closurePos := rfl
@[simp] theorem State.setSupply_pendingPos : (s.setSupply x).pendingPos = s.pendingPos := rfl
@[simp] theorem State.setSupply_store : (s.setSupply x).store = s.store := rfl
@[simp] theorem State.setSupply_nv : (s.setSupply x).nv = s.nv := rfl
@[simp] theorem State.setSupply_supply : (s.setSupply x).supply = x := rfl
@[simp] theorem State.setSupply_startUp : (s.setSupply x).startUp = s.startUp := rfl
@[simp] theorem State.setSupply_pins : (s.setSupply x).pins = s.pins := rfl
@[simp] theorem State.setSupply_free : (s.setSupply x).free = s.free := rfl
@[simp] theorem State.setSupply_pauses : (s.setSupply x).pauses = s.pauses := rfl
@[simp] theorem State.setSupply_pending : (s.setSupply x).pending = s.pending := rfl
end

/-! ## `State.setStartUp` -/

section
variable (s : State) (x : Option Stage)
@[simp] theorem State.setStartUp_clock : (s.setStartUp x).clock = s.clock := rfl
@[simp] theorem State.setStartUp_survey : (s.setStartUp x).survey = s.survey := rfl
@[simp] theorem State.setStartUp_bases : (s.setStartUp x).bases = s.bases := rfl
@[simp] theorem State.setStartUp_loop : (s.setStartUp x).loop = s.loop := rfl
@[simp] theorem State.setStartUp_queue : (s.setStartUp x).queue = s.queue := rfl
@[simp] theorem State.setStartUp_log : (s.setStartUp x).log = s.log := rfl
@[simp] theorem State.setStartUp_mark : (s.setStartUp x).mark = s.mark := rfl
@[simp] theorem State.setStartUp_meter : (s.setStartUp x).meter = s.meter := rfl
@[simp] theorem State.setStartUp_uart : (s.setStartUp x).uart = s.uart := rfl
@[simp] theorem State.setStartUp_chain : (s.setStartUp x).chain = s.chain := rfl
@[simp] theorem State.setStartUp_cache : (s.setStartUp x).cache = s.cache := rfl
@[simp] theorem State.setStartUp_occ : (s.setStartUp x).occ = s.occ := rfl
@[simp] theorem State.setStartUp_closurePos : (s.setStartUp x).closurePos = s.closurePos := rfl
@[simp] theorem State.setStartUp_pendingPos : (s.setStartUp x).pendingPos = s.pendingPos := rfl
@[simp] theorem State.setStartUp_store : (s.setStartUp x).store = s.store := rfl
@[simp] theorem State.setStartUp_nv : (s.setStartUp x).nv = s.nv := rfl
@[simp] theorem State.setStartUp_supply : (s.setStartUp x).supply = s.supply := rfl
@[simp] theorem State.setStartUp_startUp : (s.setStartUp x).startUp = x := rfl
@[simp] theorem State.setStartUp_pins : (s.setStartUp x).pins = s.pins := rfl
@[simp] theorem State.setStartUp_free : (s.setStartUp x).free = s.free := rfl
@[simp] theorem State.setStartUp_pauses : (s.setStartUp x).pauses = s.pauses := rfl
@[simp] theorem State.setStartUp_pending : (s.setStartUp x).pending = s.pending := rfl
end

/-! ## `State.setPins` -/

section
variable (s : State) (x : Pins)
@[simp] theorem State.setPins_clock : (s.setPins x).clock = s.clock := rfl
@[simp] theorem State.setPins_survey : (s.setPins x).survey = s.survey := rfl
@[simp] theorem State.setPins_bases : (s.setPins x).bases = s.bases := rfl
@[simp] theorem State.setPins_loop : (s.setPins x).loop = s.loop := rfl
@[simp] theorem State.setPins_queue : (s.setPins x).queue = s.queue := rfl
@[simp] theorem State.setPins_log : (s.setPins x).log = s.log := rfl
@[simp] theorem State.setPins_mark : (s.setPins x).mark = s.mark := rfl
@[simp] theorem State.setPins_meter : (s.setPins x).meter = s.meter := rfl
@[simp] theorem State.setPins_uart : (s.setPins x).uart = s.uart := rfl
@[simp] theorem State.setPins_chain : (s.setPins x).chain = s.chain := rfl
@[simp] theorem State.setPins_cache : (s.setPins x).cache = s.cache := rfl
@[simp] theorem State.setPins_occ : (s.setPins x).occ = s.occ := rfl
@[simp] theorem State.setPins_closurePos : (s.setPins x).closurePos = s.closurePos := rfl
@[simp] theorem State.setPins_pendingPos : (s.setPins x).pendingPos = s.pendingPos := rfl
@[simp] theorem State.setPins_store : (s.setPins x).store = s.store := rfl
@[simp] theorem State.setPins_nv : (s.setPins x).nv = s.nv := rfl
@[simp] theorem State.setPins_supply : (s.setPins x).supply = s.supply := rfl
@[simp] theorem State.setPins_startUp : (s.setPins x).startUp = s.startUp := rfl
@[simp] theorem State.setPins_pins : (s.setPins x).pins = x := rfl
@[simp] theorem State.setPins_free : (s.setPins x).free = s.free := rfl
@[simp] theorem State.setPins_pauses : (s.setPins x).pauses = s.pauses := rfl
@[simp] theorem State.setPins_pending : (s.setPins x).pending = s.pending := rfl
end

/-! ## `State.setPending` -/

section
variable (s : State) (x : List Instr)
@[simp] theorem State.setPending_clock : (s.setPending x).clock = s.clock := rfl
@[simp] theorem State.setPending_survey : (s.setPending x).survey = s.survey := rfl
@[simp] theorem State.setPending_bases : (s.setPending x).bases = s.bases := rfl
@[simp] theorem State.setPending_loop : (s.setPending x).loop = s.loop := rfl
@[simp] theorem State.setPending_queue : (s.setPending x).queue = s.queue := rfl
@[simp] theorem State.setPending_log : (s.setPending x).log = s.log := rfl
@[simp] theorem State.setPending_mark : (s.setPending x).mark = s.mark := rfl
@[simp] theorem State.setPending_meter : (s.setPending x).meter = s.meter := rfl
@[simp] theorem State.setPending_uart : (s.setPending x).uart = s.uart := rfl
@[simp] theorem State.setPending_chain : (s.setPending x).chain = s.chain := rfl
@[simp] theorem State.setPending_cache : (s.setPending x).cache = s.cache := rfl
@[simp] theorem State.setPending_occ : (s.setPending x).occ = s.occ := rfl
@[simp] theorem State.setPending_closurePos : (s.setPending x).closurePos = s.closurePos := rfl
@[simp] theorem State.setPending_pendingPos : (s.setPending x).pendingPos = s.pendingPos := rfl
@[simp] theorem State.setPending_store : (s.setPending x).store = s.store := rfl
@[simp] theorem State.setPending_nv : (s.setPending x).nv = s.nv := rfl
@[simp] theorem State.setPending_supply : (s.setPending x).supply = s.supply := rfl
@[simp] theorem State.setPending_startUp : (s.setPending x).startUp = s.startUp := rfl
@[simp] theorem State.setPending_pins : (s.setPending x).pins = s.pins := rfl
@[simp] theorem State.setPending_free : (s.setPending x).free = s.free := rfl
@[simp] theorem State.setPending_pauses : (s.setPending x).pauses = s.pauses := rfl
@[simp] theorem State.setPending_pending : (s.setPending x).pending = x := rfl
end

/-! ## `State.raise` -/

section
variable (s : State) (e : Event)
@[simp] theorem State.raise_clock : (s.raise e).clock = s.clock := rfl
@[simp] theorem State.raise_survey : (s.raise e).survey = s.survey := rfl
@[simp] theorem State.raise_bases : (s.raise e).bases = s.bases := rfl
@[simp] theorem State.raise_loop : (s.raise e).loop = s.loop := rfl
@[simp] theorem State.raise_queue : (s.raise e).queue = s.queue := rfl
@[simp] theorem State.raise_log : (s.raise e).log = s.log := rfl
@[simp] theorem State.raise_mark : (s.raise e).mark = s.mark := rfl
@[simp] theorem State.raise_meter : (s.raise e).meter = { s.meter with events := addEvent e s.meter.events } := rfl
@[simp] theorem State.raise_uart : (s.raise e).uart = { s.uart with events := addEvent e s.uart.events } := rfl
@[simp] theorem State.raise_chain : (s.raise e).chain = s.chain := rfl
@[simp] theorem State.raise_cache : (s.raise e).cache = s.cache := rfl
@[simp] theorem State.raise_occ : (s.raise e).occ = s.occ := rfl
@[simp] theorem State.raise_closurePos : (s.raise e).closurePos = s.closurePos := rfl
@[simp] theorem State.raise_pendingPos : (s.raise e).pendingPos = s.pendingPos := rfl
@[simp] theorem State.raise_store : (s.raise e).store = s.store := rfl
@[simp] theorem State.raise_nv : (s.raise e).nv = s.nv := rfl
@[simp] theorem State.raise_supply : (s.raise e).supply = s.supply := rfl
@[simp] theorem State.raise_startUp : (s.raise e).startUp = s.startUp := rfl
@[simp] theorem State.raise_pins : (s.raise e).pins = s.pins := rfl
@[simp] theorem State.raise_free : (s.raise e).free = s.free := rfl
@[simp] theorem State.raise_pauses : (s.raise e).pauses = s.pauses := rfl
@[simp] theorem State.raise_pending : (s.raise e).pending = s.pending := rfl
end

/-- An event raised is pending at both ports, together with what was pending before (R164). -/
theorem State.raise_events (s : State) (e : Event) (p : Port) : (s.raise e).events p = addEvent e (s.events p) := by
  cases p <;> rfl

/-- Raising an event leaves both masks (R165). -/
@[simp] theorem State.raise_mask (s : State) (e : Event) (p : Port) : (s.raise e).mask p = s.mask p := by
  cases p <;> rfl

/-- Raising an event leaves both cursors (R98). -/
@[simp] theorem State.raise_cursor (s : State) (e : Event) (p : Port) : (s.raise e).cursor p = s.cursor p := by
  cases p <;> rfl

end Sys2Proof.Machine
end

