-- ==== Sys2Proof/Laws/Ports.lean ====
section
/-! SUPPORT. What the ports can do to the state: `State.PortOnly`, the law of taking a request (`State.take_spec`), and the laws of
the frame rows. -/

namespace Sys2Proof.Machine

/-- From `s` to `t` nothing differs but the ports' own transfer state and the output lines: no event set, no mask, no cursor, no
sequence expectation, no rate, and nothing outside the ports. -/
def State.PortOnly (s t : State) : Prop :=
  ∃ (slot : Slot) (txn : Option Txn) (rx : RxState) (buf : List Byte) (timer : Bool) (out : Option Outstanding)
    (overruns : Nat) (pins : Pins),
    t = { s with
      meter := { s.meter with slot := slot, txn := txn }
      uart := { s.uart with rx := rx, buf := buf, timer := timer, out := out, overruns := overruns }
      pins := pins }

namespace State.PortOnly

theorem refl (s : State) : s.PortOnly s := ⟨_, _, _, _, _, _, _, _, rfl⟩

theorem trans {s t u : State} (h : s.PortOnly t) (k : t.PortOnly u) : s.PortOnly u := by
  obtain ⟨_, _, _, _, _, _, _, _, rfl⟩ := h
  obtain ⟨_, _, _, _, _, _, _, _, rfl⟩ := k
  exact ⟨_, _, _, _, _, _, _, _, rfl⟩

theorem csFall (s : State) (n : Nat) : s.PortOnly (s.csFall n) := by
  unfold State.csFall
  split
  · exact ⟨_, _, _, _, _, _, _, _, rfl⟩
  · split <;> exact ⟨_, _, _, _, _, _, _, _, rfl⟩

theorem openTxn (s : State) (n : Nat) : s.PortOnly (s.openTxn n) := by
  unfold State.openTxn
  split
  · exact refl s
  · exact csFall s n

theorem csRise (s : State) : s.PortOnly s.csRise := ⟨_, _, _, _, _, _, _, _, rfl⟩

theorem setSlot (s : State) (x : Slot) : s.PortOnly (s.setSlot x) := ⟨_, _, _, _, _, _, _, _, rfl⟩

theorem setOut (s : State) (o : Option Outstanding) : s.PortOnly (s.setOut o) := ⟨_, _, _, _, _, _, _, _, rfl⟩

theorem hunting (s : State) : s.PortOnly (s.setUart s.uart.hunting) := ⟨_, _, _, _, _, _, _, _, rfl⟩

theorem timeOut (s : State) : s.PortOnly s.timeOut := by
  unfold State.timeOut
  split <;> exact ⟨_, _, _, _, _, _, _, _, rfl⟩

theorem responseSent (s : State) : s.PortOnly s.responseSent := by
  unfold State.responseSent
  split
  · split
    · exact ⟨_, _, _, _, _, _, _, _, rfl⟩
    · exact refl s
  · exact refl s

theorem answer (s : State) (p : Port) : s.PortOnly (s.answer p) := by
  unfold State.answer
  split <;> split <;> exact ⟨_, _, _, _, _, _, _, _, rfl⟩

theorem rejectSurvey (s : State) (f : FrameFault) (b : List Byte) : s.PortOnly (s.rejectSurvey f b) :=
  ⟨_, _, _, _, _, _, _, _, rfl⟩

end State.PortOnly

/-- What taking a request can do: either it touches the port alone (not received, dropped, too short, BUSY), or frames are received,
start-up does not forbid it, and its operation runs on a state that differs from `s` in the port alone. -/
theorem State.take_spec (s : State) (p : Port) (r : Req) (n : Nat) (a : Bool) (op : State → Served) :
    s.PortOnly (s.take p r n a op) ∨
      (s.receiving = true ∧ (s.inStartUp = false ∨ a = true) ∧
        ∃ s1, s.PortOnly s1 ∧ (op s1).1.PortOnly (s.take p r n a op)) := by
  have inner (t : State) (h : s.PortOnly t) : t.inStartUp = s.inStartUp := by
    obtain ⟨_, _, _, _, _, _, _, _, rfl⟩ := h
    rfl
  unfold State.take
  split
  case isFalse => exact .inl (.refl s)
  rename_i hrec
  cases p with
  | meter =>
    simp only [State.takeMeter]
    have ho := PortOnly.openTxn s (n + 3)
    have hs := inner _ ho
    generalize s.openTxn (n + 3) = s1 at ho hs
    split
    · exact .inl ho
    split
    · exact .inl (ho.trans (.csRise s1))
    split
    · exact .inl ((ho.trans (.csRise s1)).trans (.setSlot _ _))
    split
    · exact .inl ((ho.trans (.csRise s1)).trans (.setSlot _ _))
    rename_i hb
    refine .inr ⟨hrec, by cases a <;> simp_all, s1.csRise, ho.trans (.csRise s1), ?_⟩
    split
    · rename_i e
      rw [e]
      exact .setSlot _ _
    · rename_i e
      rw [e]
      exact .refl _
  | survey =>
    simp only [State.takeSurvey]
    have ho := PortOnly.hunting s
    split
    · exact .inl (ho.trans ⟨_, _, _, _, _, _, _, _, rfl⟩)
    split
    · exact .inl (ho.trans (.setOut _ _))
    rename_i hb
    refine .inr ⟨hrec, by cases a <;> simp_all, s.setUart s.uart.hunting, ho, ?_⟩
    split
    · rename_i e
      rw [e]
      exact .setOut _ _
    · rename_i e
      rw [e]
      exact .refl _

/-! ## A request's operation -/

/-- The operation of a request, by its constructor; a command that is no request has none and leaves the state. -/
def operationOf : Instr → State → Served
  | .sample p q r tx ty dT f => opSample p q r tx ty dT f
  | .readLive _ => opReadLive
  | .status _ => opStatus
  | .readClock _ => opReadClock
  | .setClock p v => opSetClock p v
  | .readEvents p => opReadEvents p
  | .setMask p w => opSetMask p w
  | .readMask p => opReadMask p
  | .readItem _ b i => opReadItem b i
  | .writeItem p w => opWriteItem p w
  | .commit _ => opCommit
  | .discard _ => opDiscard
  | .readDigest _ => opReadDigest
  | .openSurvey p n id step => opOpenSurvey p n id step
  | .closeSurvey p => opCloseSurvey p
  | .resume _ => opResume
  | .setLine p id step => opSetLine p id step
  | .setPosition p k lat lon => opSetPosition p k lat lon
  | .occupy p k id lat lon => opOccupy p k id lat lon
  | .occupyNext p => opOccupyNext p
  | .endOccupation p => opEnd p
  | .abandon p => opAbandon p
  | .readLogFrom p q => opReadLogFrom p q
  | .readLogNext p => opReadLogNext p
  | .purge p q => opPurge p q
  | .loadBase p id v => opLoadBase p id v
  | .dropBase p id => opDropBase p id
  | .readBases p id => opReadBases p id
  | .softReset _ => opSoftReset
  | _ => fun s => (s, none)

/-- A good frame is served as its request is taken. -/
theorem State.serve_eq (s : State) {i : Instr} {p : Port} {r : Req} (h : i.request = some (p, r)) :
    s.serve i = s.take p r (encodePayload i).length i.alwaysTaken (operationOf i) := by
  cases i <;> simp only [Instr.request, Option.some.injEq, Prod.mk.injEq, reduceCtorEq] at h <;>
    obtain ⟨rfl, rfl⟩ := h <;> rfl

/-- A payload is read as the request whose payload it is. -/
theorem decodePayload_request {p : Port} {r : Req} {pl : List Byte} {i : Instr} (h : decodePayload p r pl = some i) :
    i.request = some (p, r) := by
  cases r <;> simp only [decodePayload] at h <;> split at h <;> try (cases h <;> rfl)
  · split at h <;> cases h
    rfl
  · simp only [Option.map_eq_some_iff] at h
    obtain ⟨w, _, rfl⟩ := h
    rfl

/-- A request's row is the arrival of its frame. -/
theorem exec_arrive (s : State) {i : Instr} {p : Port} {r : Req} (h : i.request = some (p, r)) :
    exec i s = .next (s.arrive i) := by
  cases i <;> simp only [Instr.request, reduceCtorEq] at h <;> rfl

/-- Bytes are received one after another. -/
theorem State.receiveBytes_cons (s : State) (b : Byte) (rest : List Byte) :
    s.receiveBytes (b :: rest) = (s.receiveBytes [b]).receiveBytes rest := rfl

/-- A frame that arrives on the meter port, or on the survey port with no frame in progress, is served. -/
theorem State.arrive_serve {s : State} {i : Instr} {p : Port} {r : Req} (h : i.request = some (p, r))
    (hp : p = .meter ∨ s.uart.rx = .hunt) : s.arrive i = s.serve i := by
  rcases hp with rfl | hp <;> simp [State.arrive, *]

/-- A frame that arrives on the survey port with a frame in progress is received byte by byte. -/
theorem State.arrive_bytes {s : State} {i : Instr} {r : Req} (h : i.request = some (.survey, r)) (hp : s.uart.rx ≠ .hunt) :
    s.arrive i = s.receiveBytes (0xA5 :: (encodeFrame i).getD []) := by
  simp [State.arrive, h, hp]

/-- A request's row takes the request as its frame does. -/
theorem exec_request {s : State} {i : Instr} {p : Port} {r : Req} (h : i.request = some (p, r))
    (hp : p = .meter ∨ s.uart.rx = .hunt) :
    exec i s = .next (s.take p r (encodePayload i).length i.alwaysTaken (operationOf i)) := by
  rw [exec_arrive s h, State.arrive_serve h hp, State.serve_eq s h]

/-- The state a request's operation runs on where its port is open: the transaction is over, or the frame has been collected. -/
def State.opened (s : State) : Port → State
  | .meter => s.csRise
  | .survey => s.setUart s.uart.hunting

/-- The answer an operation gives, put into its port: the slot takes it, or the request is outstanding with it. -/
def State.holdAnswer (s : State) : Port → Req → Option Response → State
  | .meter, _, some a => s.setSlot (.taking a)
  | .survey, r, some a => s.setOut (some { code := r.code, reply := a, sending := false })
  | _, _, none => s

/-- A request that reaches an open port outside start-up runs its operation (R157, R159, R160). -/
theorem State.take_open {s : State} {p : Port} {r : Req} {n : Nat} {a : Bool} (op : State → Served)
    (h : s.portOpen p n = true) (hu : s.startUp = none ∨ a = true) :
    s.take p r n a op = (op (s.opened p)).1.holdAnswer p r (op (s.opened p)).2 := by
  unfold State.portOpen at h
  simp only [Bool.and_eq_true, Bool.not_eq_true'] at h
  obtain ⟨⟨hv, hl⟩, hp⟩ := h
  have hr : s.receiving = true := by simp [State.receiving, hv, hl]
  have hb : (s.inStartUp && !a) = false := by rcases hu with hu | hu <;> simp [State.inStartUp, hu]
  unfold State.take
  rw [if_pos hr]
  cases p with
  | meter =>
    dsimp only at hp
    split at hp
    · rename_i t ht
      simp only [Bool.and_eq_true, Bool.not_eq_true', decide_eq_true_eq] at hp
      have ho : s.openTxn (n + 3) = s := by simp [State.openTxn, ht]
      simp only [State.takeMeter, ho, ht, hp.1, hb, if_neg (Nat.not_lt.2 hp.2), Bool.false_eq_true, if_false, State.opened]
      cases op s.csRise with
      | mk x y => cases y <;> rfl
    · simp at hp
  | survey =>
    simp only [Bool.and_eq_true, Option.isNone_iff_eq_none] at hp
    simp only [State.takeSurvey, hp.1, hb, Option.isSome_none, Bool.false_eq_true, if_false, State.opened]
    cases op (s.setUart s.uart.hunting) with
    | mk x y => cases y <;> rfl

/-- An open port has no frame in progress. -/
theorem State.portOpen_hunt {s : State} {p : Port} {n : Nat} (h : s.portOpen p n = true) : p = .meter ∨ s.uart.rx = .hunt := by
  cases p with
  | meter => exact .inl rfl
  | survey =>
    simp only [State.portOpen, Bool.and_eq_true, beq_iff_eq] at h
    exact .inr h.2.2

/-- A request that reaches a ready port runs its operation. -/
theorem exec_ready {s : State} {i : Instr} {p : Port} {r : Req} (h : i.request = some (p, r))
    (hr : s.portReady p (encodePayload i).length = true) :
    exec i s = .next ((operationOf i (s.opened p)).1.holdAnswer p r (operationOf i (s.opened p)).2) := by
  simp only [State.portReady, Bool.and_eq_true, Option.isNone_iff_eq_none] at hr
  rw [exec_request h (State.portOpen_hunt hr.1), State.take_open _ hr.1 (.inl hr.2)]

/-- A command that is no request is not served. -/
theorem State.serve_other (s : State) {i : Instr} (h : i.request = none) : s.serve i = s := by
  cases i <;> simp only [Instr.request, reduceCtorEq] at h <;> rfl

end Sys2Proof.Machine
end

