-- ==== Sys2Proof/Laws/Exec.lean ====
section
/-! SUPPORT. One induction for every invariant: `Keeps I` lists what has to be shown of the operations that change more than the
ports' transfer state, and `Keeps.exec` and `Keeps.step` give the rest. -/

namespace Sys2Proof.Machine

/-- Every operation of the part keeps `I`: the transfer state of the ports, the operation of a request taken outside start-up, and
each event. -/
structure Keeps (I : State → Prop) : Prop where
  ports : ∀ {s t}, s.PortOnly t → I s → I t
  request : ∀ {i p r s}, i.request = some (p, r) → r ≠ .softReset → s.receiving = true → s.startUp = none → I s →
    I (operationOf i s).1
  boundary : ∀ {s : State}, s.clockRuns = true → I s → I s.boundary
  tick : ∀ {s : State}, s.clockRuns = true → s.clock.divider + 1 < 32768 → I s →
    I (s.setClock { s.clock with divider := s.clock.divider + 1 })
  closure : ∀ {s : State}, s.mainLive = true → s.startUp = none → I s → I s.closureStep
  block : ∀ {s : State}, s.mainLive = true → I s → I s.blockWritten
  digest : ∀ {s : State}, s.storeLive = true → s.store.computing = true → I s →
    I ((s.setStore { s.store with digest := digestOf s.nv.constants.image, computing := false }).raise .digestReady)
  restart : ∀ {s : State} {x : Supply} {c : Cause}, x.vdd = true → x.resetLow = false →
    (c = .powerLost → s.mark = false) → I s → I ((s.setSupply x).beginRestart c)
  delay : ∀ {s : State}, s.supply.vdd = false → s.supply.resetLow = true → I s →
    I (s.setSupply { s.supply with vdd := true, restartDue := true })
  fall : ∀ {s : State} {b : Bool}, s.supply.vdd = true → I s → I (s.vddFalls b)
  vbak : ∀ {s : State}, I s → I s.vbakFails
  hold : ∀ {s : State}, I s → I (s.setSupply { s.supply with resetLow := true })
  unhold : ∀ {s : State}, s.supply.vdd = false → I s → I (s.setSupply { s.supply with resetLow := false })
  image : ∀ {s : State} {b : Block}, s.supply.vdd = false → I s → I (s.setNv (s.nv.spoil b))
  stage : ∀ {s : State} {b : Bool}, s.receiving = true → I s → I (s.takeStage b)

namespace Keeps

variable {I : State → Prop} (h : Keeps I)
include h

/-- VDD's rise keeps `I`. -/
theorem rise {s : State} (hv : s.supply.vdd = false) (hs : I s) : I s.vddRises := by
  unfold State.vddRises
  dsimp only
  split
  next hl => exact h.delay (s := s) hv hl hs
  next hl =>
    refine h.restart rfl (by simpa using hl) (fun e => ?_) hs
    by_contra hm
    simp [State.powerCause, hm] at e

/-- RESETn's release keeps `I`. -/
theorem release {s : State} (hs : I s) : I s.resetReleases := by
  unfold State.resetReleases
  dsimp only
  split
  next hv =>
    refine h.restart hv rfl (fun e => ?_) hs
    by_contra hm
    split at e <;> simp [State.powerCause, hm] at e
  next hv => exact h.unhold (s := s) (by simpa using hv) hs

/-- A request taken on a port keeps `I`. -/
theorem take {i : Instr} {p : Port} {r : Req} (hi : i.request = some (p, r)) (n : Nat) {s : State} (hs : I s) :
    I (s.take p r n i.alwaysTaken (operationOf i)) := by
  rcases State.take_spec s p r n i.alwaysTaken (operationOf i) with hp | ⟨hr, ha, s1, h1, h2⟩
  · exact h.ports hp hs
  have hs1 := h.ports h1 hs
  have hrec : s1.receiving = true ∧ s1.startUp = s.startUp := by
    obtain ⟨_, _, _, _, _, _, _, _, rfl⟩ := h1
    exact ⟨hr, rfl⟩
  refine h.ports h2 ?_
  rcases ha with ha | ha
  · by_cases hsoft : r = .softReset
    · subst hsoft
      cases i <;> simp only [Instr.request, Option.some.injEq, Prod.mk.injEq, reduceCtorEq, and_false] at hi
      simp only [State.receiving, Bool.and_eq_true, Bool.not_eq_true'] at hrec
      exact h.restart (x := s1.supply) hrec.1.1 hrec.1.2 (fun e => by cases e) hs1
    · exact h.request hi hsoft hrec.1 (by rw [hrec.2]; simpa [State.inStartUp] using ha) hs1
  · cases i <;> simp only [Instr.alwaysTaken, Bool.false_eq_true] at ha
    exact hs1

/-- A good frame keeps `I`. -/
theorem serve (i : Instr) {s : State} (hs : I s) : I (s.serve i) := by
  cases hi : i.request with
  | none => rwa [State.serve_other s hi]
  | some x => rw [State.serve_eq s hi]; exact h.take hi _ hs

/-- A meter-port transaction examined keeps `I`. -/
theorem examine (bytes : List Byte) {s : State} (hs : I s) : I (s.examine bytes) := by
  have ho := State.PortOnly.openTxn s bytes.length
  unfold State.examine
  generalize s.openTxn bytes.length = s1 at ho
  have h1 := h.ports ho hs
  have hr := h.ports (.csRise s1) h1
  dsimp only
  split
  · exact h1
  split
  · exact hr
  split
  · exact hr
  · exact h.ports (.setSlot _ _) hr
  · exact h.serve _ h1

/-- A byte received on RXD keeps `I`. -/
theorem receiveByte (b : Byte) {s : State} (hs : I s) : I (s.receiveByte b) := by
  have ports (t : State) (ht : s.PortOnly t) : I t := h.ports ht hs
  have judge (buf : List Byte) : I (s.judgeFrame buf) := by
    unfold State.judgeFrame
    split
    · exact ports _ (.rejectSurvey s _ _)
    · exact h.serve _ hs
    · exact ports _ (.hunting s)
  unfold State.receiveByte
  split
  · split
    · exact hs
    split
    · exact ports _ ⟨_, _, _, _, _, _, _, _, rfl⟩
    · exact ports _ ⟨_, _, _, _, _, _, _, _, rfl⟩
  · dsimp only
    split
    · exact ports _ (.rejectSurvey s _ _)
    split
    · exact judge _
    · exact ports _ ⟨_, _, _, _, _, _, _, _, rfl⟩
  · dsimp only
    split
    · exact ports _ (.hunting s)
    split
    · exact ports _ (.hunting s)
    · exact ports _ ⟨_, _, _, _, _, _, _, _, rfl⟩

/-- Bytes received on RXD keep `I`. -/
theorem receiveBytes (bytes : List Byte) {s : State} (hs : I s) : I (s.receiveBytes bytes) := by
  unfold State.receiveBytes
  induction bytes generalizing s with
  | nil => exact hs
  | cons b rest ih =>
    rw [List.foldl_cons]
    refine ih ?_
    split
    · exact h.receiveByte b hs
    · exact hs

/-- A request's row keeps `I`. -/
theorem arrive {i : Instr} {p : Port} {r : Req} (hi : i.request = some (p, r)) {s : State} (hs : I s) : I (s.arrive i) := by
  by_cases hp : p = .meter ∨ s.uart.rx = .hunt
  · rw [State.arrive_serve hi hp]
    exact h.serve i hs
  · cases p with
    | meter => exact absurd (.inl rfl) hp
    | survey =>
      rw [State.arrive_bytes hi (fun e => hp (.inr e))]
      exact h.receiveBytes _ hs

/-- Every command that is no request keeps `I`. -/
theorem event {c : Instr} (hc : c.request = none) {s t : State} (hs : I s) (he : Machine.exec c s = .next t) : I t := by
  cases c <;> simp only [Instr.request, reduceCtorEq] at hc <;> injection he with he <;> subst he
  case meterFrameReject =>
    split
    · exact h.examine _ hs
    · exact hs
  case meterFrameDiscard =>
    split
    · exact h.ports (.csRise s) hs
    · exact hs
  case csnFall =>
    split
    · exact h.ports (.csFall s _) hs
    · exact hs
  case surveyFrameReject => exact h.receiveBytes _ hs
  case surveyFrameOverrun =>
    split
    · exact h.receiveBytes _ hs
    · exact hs
  case interByteTimeout =>
    split
    · exact h.ports (.timeOut s) hs
    · exact hs
  case responseSent =>
    split
    · exact h.ports (.responseSent s) hs
    · exact hs
  case operationAnswer =>
    split
    · exact h.ports (.answer s _) hs
    · exact hs
  case secondBoundary =>
    split
    next hk => exact h.boundary hk hs
    next => exact hs
  case gapExpiry =>
    split
    next hk =>
      simp only [State.gapDue, Bool.and_eq_true] at hk
      exact h.boundary hk.1.1.1 hs
    next => exact hs
  case liveReadingStale =>
    split
    next hk =>
      simp only [State.staleDue, Bool.and_eq_true] at hk
      exact h.boundary hk.1.1.1 hs
    next => exact hs
  case closureStep =>
    split
    next hk =>
      simp only [Bool.and_eq_true, State.inStartUp, Bool.not_eq_true', Option.isSome_eq_false_iff,
        Option.isNone_iff_eq_none] at hk
      exact h.closure hk.1 hk.2 hs
    next => exact hs
  case blockWriteComplete =>
    split
    next hk => exact h.block hk hs
    next => exact hs
  case digestComplete =>
    split
    next hk =>
      simp only [Bool.and_eq_true] at hk
      exact h.digest hk.1 hk.2 hs
    next => exact hs
  case vddRise =>
    split
    next => exact hs
    next hk => exact h.rise (by simpa using hk) hs
  case vddFall =>
    split
    next hk => exact h.fall hk hs
    next => exact hs
  case vbakFail => exact h.vbak hs
  case resetnAssert => exact h.hold hs
  case resetnRelease =>
    split
    next => exact h.release hs
    next => exact hs
  case nvImageLoss =>
    split
    next => exact hs
    next hk => exact h.image (by simpa using hk) hs
  case startUpStage =>
    split
    next hk => exact h.stage hk hs
    next => exact hs

/-- Every command keeps `I`. -/
theorem exec (c : Instr) {s t : State} (hs : I s) (he : Machine.exec c s = .next t) : I t := by
  cases hc : c.request with
  | none => exact h.event hc hs he
  | some x =>
    obtain ⟨p, r⟩ := x
    rw [exec_arrive s hc] at he
    cases he
    exact h.arrive hc hs

/-- Every step keeps `I`, where `I` does not look at the queue. -/
theorem step (hp : ∀ (s : State) (q : List Instr), I s → I (s.setPending q)) {s t : State} (hs : I s)
    (he : step s = .next t) : I t := by
  unfold Machine.step at he
  split at he
  · cases he
    unfold State.crystal
    split
    next hk =>
      split
      next hd => exact h.tick hk hd hs
      next => exact h.boundary hk hs
    next => exact hs
  · exact h.exec _ (hp _ _ hs) he

end Keeps

end Sys2Proof.Machine
end

