-- ==== Sys2Proof/Laws/Frames.lean ====
section
/-! SUPPORT. Frames: for each shared operation, one lemma that says which fields it leaves. -/

namespace Sys2Proof.Machine

variable (s : State)

/-- A mark on the active record changes the log alone (R70, R72). -/
@[simp] theorem State.markActive_frame (f : Quality → Quality) :
    (s.markActive f).clock = s.clock ∧ (s.markActive f).survey = s.survey ∧ (s.markActive f).bases = s.bases ∧
      (s.markActive f).loop = s.loop ∧ (s.markActive f).queue = s.queue ∧ (s.markActive f).mark = s.mark ∧
      (s.markActive f).meter = s.meter ∧ (s.markActive f).uart = s.uart ∧ (s.markActive f).chain = s.chain ∧
      (s.markActive f).cache = s.cache ∧ (s.markActive f).occ = s.occ ∧ (s.markActive f).closurePos = s.closurePos ∧
      (s.markActive f).pendingPos = s.pendingPos ∧ (s.markActive f).store = s.store ∧ (s.markActive f).nv = s.nv ∧
      (s.markActive f).supply = s.supply ∧ (s.markActive f).startUp = s.startUp ∧ (s.markActive f).pins = s.pins ∧
      (s.markActive f).free = s.free ∧ (s.markActive f).pauses = s.pauses ∧ (s.markActive f).pending = s.pending := by
  unfold State.markActive
  split <;> simp

/-- An event set replaced changes its port alone (R164). -/
@[simp] theorem State.setEvents_frame (p : Port) (w : U16) :
    (s.setEvents p w).clock = s.clock ∧ (s.setEvents p w).survey = s.survey ∧ (s.setEvents p w).bases = s.bases ∧
      (s.setEvents p w).loop = s.loop ∧ (s.setEvents p w).queue = s.queue ∧ (s.setEvents p w).log = s.log ∧
      (s.setEvents p w).mark = s.mark ∧ (s.setEvents p w).chain = s.chain ∧ (s.setEvents p w).cache = s.cache ∧
      (s.setEvents p w).occ = s.occ ∧ (s.setEvents p w).closurePos = s.closurePos ∧
      (s.setEvents p w).pendingPos = s.pendingPos ∧ (s.setEvents p w).store = s.store ∧ (s.setEvents p w).nv = s.nv ∧
      (s.setEvents p w).supply = s.supply ∧ (s.setEvents p w).startUp = s.startUp ∧ (s.setEvents p w).pins = s.pins ∧
      (s.setEvents p w).free = s.free ∧ (s.setEvents p w).pauses = s.pauses ∧ (s.setEvents p w).pending = s.pending := by
  cases p <;> simp [State.setEvents]

/-- A mask replaced changes its port alone (R165). -/
@[simp] theorem State.setMask_frame (p : Port) (w : U16) :
    (s.setMask p w).clock = s.clock ∧ (s.setMask p w).survey = s.survey ∧ (s.setMask p w).bases = s.bases ∧
      (s.setMask p w).loop = s.loop ∧ (s.setMask p w).queue = s.queue ∧ (s.setMask p w).log = s.log ∧
      (s.setMask p w).mark = s.mark ∧ (s.setMask p w).chain = s.chain ∧ (s.setMask p w).cache = s.cache ∧
      (s.setMask p w).occ = s.occ ∧ (s.setMask p w).closurePos = s.closurePos ∧
      (s.setMask p w).pendingPos = s.pendingPos ∧ (s.setMask p w).store = s.store ∧ (s.setMask p w).nv = s.nv ∧
      (s.setMask p w).supply = s.supply ∧ (s.setMask p w).startUp = s.startUp ∧ (s.setMask p w).pins = s.pins ∧
      (s.setMask p w).free = s.free ∧ (s.setMask p w).pauses = s.pauses ∧ (s.setMask p w).pending = s.pending := by
  cases p <;> simp [State.setMask]

/-- A cursor replaced changes its port alone (R98). -/
@[simp] theorem State.setCursor_frame (p : Port) (c : Option Nat) :
    (s.setCursor p c).clock = s.clock ∧ (s.setCursor p c).survey = s.survey ∧ (s.setCursor p c).bases = s.bases ∧
      (s.setCursor p c).loop = s.loop ∧ (s.setCursor p c).queue = s.queue ∧ (s.setCursor p c).log = s.log ∧
      (s.setCursor p c).mark = s.mark ∧ (s.setCursor p c).chain = s.chain ∧ (s.setCursor p c).cache = s.cache ∧
      (s.setCursor p c).occ = s.occ ∧ (s.setCursor p c).closurePos = s.closurePos ∧
      (s.setCursor p c).pendingPos = s.pendingPos ∧ (s.setCursor p c).store = s.store ∧ (s.setCursor p c).nv = s.nv ∧
      (s.setCursor p c).supply = s.supply ∧ (s.setCursor p c).startUp = s.startUp ∧ (s.setCursor p c).pins = s.pins ∧
      (s.setCursor p c).free = s.free ∧ (s.setCursor p c).pauses = s.pauses ∧ (s.setCursor p c).pending = s.pending := by
  cases p <;> simp [State.setCursor]

/-- The test for leaving UNSET changes the survey state and the event sets alone (R131). -/
@[simp] theorem State.leaveUnset_frame :
    s.leaveUnset.clock = s.clock ∧ s.leaveUnset.bases = s.bases ∧ s.leaveUnset.loop = s.loop ∧
      s.leaveUnset.queue = s.queue ∧ s.leaveUnset.log = s.log ∧ s.leaveUnset.mark = s.mark ∧
      s.leaveUnset.chain = s.chain ∧ s.leaveUnset.cache = s.cache ∧ s.leaveUnset.occ = s.occ ∧
      s.leaveUnset.closurePos = s.closurePos ∧ s.leaveUnset.pendingPos = s.pendingPos ∧ s.leaveUnset.store = s.store ∧
      s.leaveUnset.nv = s.nv ∧ s.leaveUnset.supply = s.supply ∧ s.leaveUnset.startUp = s.startUp ∧
      s.leaveUnset.pins = s.pins ∧ s.leaveUnset.free = s.free ∧ s.leaveUnset.pauses = s.pauses ∧
      s.leaveUnset.pending = s.pending := by
  unfold State.leaveUnset
  split <;> simp

/-- An accepted SET CLOCK changes the clock, the survey state and the event sets alone (R11). -/
@[simp] theorem State.clockSetTo_frame (v : Nat) :
    (s.clockSetTo v).bases = s.bases ∧ (s.clockSetTo v).loop = s.loop ∧ (s.clockSetTo v).queue = s.queue ∧
      (s.clockSetTo v).log = s.log ∧ (s.clockSetTo v).mark = s.mark ∧ (s.clockSetTo v).chain = s.chain ∧
      (s.clockSetTo v).cache = s.cache ∧ (s.clockSetTo v).occ = s.occ ∧ (s.clockSetTo v).closurePos = s.closurePos ∧
      (s.clockSetTo v).pendingPos = s.pendingPos ∧ (s.clockSetTo v).store = s.store ∧ (s.clockSetTo v).nv = s.nv ∧
      (s.clockSetTo v).supply = s.supply ∧ (s.clockSetTo v).startUp = s.startUp ∧ (s.clockSetTo v).pins = s.pins ∧
      (s.clockSetTo v).free = s.free ∧ (s.clockSetTo v).pauses = s.pauses ∧ (s.clockSetTo v).pending = s.pending := by
  simp [State.clockSetTo]

/-- A gap expiry changes the occupation controller, the currency mark and the event sets alone (R74). -/
@[simp] theorem State.gapExpires_frame (q : Nat) :
    (s.gapExpires q).clock = s.clock ∧ (s.gapExpires q).survey = s.survey ∧ (s.gapExpires q).bases = s.bases ∧
      (s.gapExpires q).loop = s.loop ∧ (s.gapExpires q).queue = s.queue ∧ (s.gapExpires q).log = s.log ∧
      (s.gapExpires q).mark = s.mark ∧ (s.gapExpires q).cache = s.cache ∧ (s.gapExpires q).closurePos = s.closurePos ∧
      (s.gapExpires q).pendingPos = s.pendingPos ∧ (s.gapExpires q).store = s.store ∧ (s.gapExpires q).nv = s.nv ∧
      (s.gapExpires q).supply = s.supply ∧ (s.gapExpires q).startUp = s.startUp ∧ (s.gapExpires q).pins = s.pins ∧
      (s.gapExpires q).free = s.free ∧ (s.gapExpires q).pauses = s.pauses ∧ (s.gapExpires q).pending = s.pending := by
  simp [State.gapExpires]

/-- Counting a gap changes no more than a gap expiry does (R73). -/
@[simp] theorem State.countGap_frame :
    s.countGap.clock = s.clock ∧ s.countGap.survey = s.survey ∧ s.countGap.bases = s.bases ∧ s.countGap.loop = s.loop ∧
      s.countGap.queue = s.queue ∧ s.countGap.log = s.log ∧ s.countGap.mark = s.mark ∧ s.countGap.cache = s.cache ∧
      s.countGap.closurePos = s.closurePos ∧ s.countGap.pendingPos = s.pendingPos ∧ s.countGap.store = s.store ∧
      s.countGap.nv = s.nv ∧ s.countGap.supply = s.supply ∧ s.countGap.startUp = s.startUp ∧ s.countGap.pins = s.pins ∧
      s.countGap.free = s.free ∧ s.countGap.pauses = s.pauses ∧ s.countGap.pending = s.pending := by
  unfold State.countGap
  repeat' split
  all_goals simp

/-- Counting staleness changes the count and the currency mark alone (R38). -/
@[simp] theorem State.countStale_frame :
    s.countStale.clock = s.clock ∧ s.countStale.survey = s.survey ∧ s.countStale.bases = s.bases ∧
      s.countStale.loop = s.loop ∧ s.countStale.queue = s.queue ∧ s.countStale.log = s.log ∧
      s.countStale.mark = s.mark ∧ s.countStale.meter = s.meter ∧ s.countStale.uart = s.uart ∧
      s.countStale.cache = s.cache ∧ s.countStale.closurePos = s.closurePos ∧ s.countStale.pendingPos = s.pendingPos ∧
      s.countStale.store = s.store ∧ s.countStale.nv = s.nv ∧ s.countStale.supply = s.supply ∧
      s.countStale.startUp = s.startUp ∧ s.countStale.pins = s.pins ∧ s.countStale.free = s.free ∧
      s.countStale.pauses = s.pauses ∧ s.countStale.pending = s.pending := by
  unfold State.countStale
  dsimp only
  split <;> simp

/-- A second boundary changes the clock, the occupation controller, the currency mark and the event sets alone (R8). -/
@[simp] theorem State.boundary_frame :
    s.boundary.survey = s.survey ∧ s.boundary.bases = s.bases ∧ s.boundary.loop = s.loop ∧ s.boundary.queue = s.queue ∧
      s.boundary.log = s.log ∧ s.boundary.mark = s.mark ∧ s.boundary.cache = s.cache ∧
      s.boundary.closurePos = s.closurePos ∧ s.boundary.pendingPos = s.pendingPos ∧ s.boundary.store = s.store ∧
      s.boundary.nv = s.nv ∧ s.boundary.supply = s.supply ∧ s.boundary.startUp = s.startUp ∧ s.boundary.pins = s.pins ∧
      s.boundary.free = s.free ∧ s.boundary.pauses = s.pauses ∧ s.boundary.pending = s.pending := by
  unfold State.boundary
  dsimp only
  split <;> simp

/-- A loss reported changes the lost-sample count, the loss indication and a quality flag alone (R18, R72). -/
@[simp] theorem State.reportLoss_frame (n : Nat) :
    (s.reportLoss n).clock = s.clock ∧ (s.reportLoss n).survey = s.survey ∧ (s.reportLoss n).bases = s.bases ∧
      (s.reportLoss n).loop = s.loop ∧ (s.reportLoss n).queue = s.queue ∧ (s.reportLoss n).mark = s.mark ∧
      (s.reportLoss n).meter = s.meter ∧ (s.reportLoss n).uart = s.uart ∧ (s.reportLoss n).cache = s.cache ∧
      (s.reportLoss n).closurePos = s.closurePos ∧ (s.reportLoss n).pendingPos = s.pendingPos ∧
      (s.reportLoss n).store = s.store ∧ (s.reportLoss n).nv = s.nv ∧ (s.reportLoss n).supply = s.supply ∧
      (s.reportLoss n).startUp = s.startUp ∧ (s.reportLoss n).pins = s.pins ∧ (s.reportLoss n).free = s.free ∧
      (s.reportLoss n).pauses = s.pauses ∧ (s.reportLoss n).pending = s.pending := by
  unfold State.reportLoss
  dsimp only
  repeat' split
  all_goals simp

/-- Stage 1 of a sample changes the expectation and what a loss changes (R17). -/
@[simp] theorem State.takeSequence_frame (q : Nat) :
    (s.takeSequence q).clock = s.clock ∧ (s.takeSequence q).survey = s.survey ∧ (s.takeSequence q).bases = s.bases ∧
      (s.takeSequence q).loop = s.loop ∧ (s.takeSequence q).queue = s.queue ∧ (s.takeSequence q).mark = s.mark ∧
      (s.takeSequence q).uart = s.uart ∧ (s.takeSequence q).cache = s.cache ∧
      (s.takeSequence q).closurePos = s.closurePos ∧ (s.takeSequence q).pendingPos = s.pendingPos ∧
      (s.takeSequence q).store = s.store ∧ (s.takeSequence q).nv = s.nv ∧ (s.takeSequence q).supply = s.supply ∧
      (s.takeSequence q).startUp = s.startUp ∧ (s.takeSequence q).pins = s.pins ∧ (s.takeSequence q).free = s.free ∧
      (s.takeSequence q).pauses = s.pauses ∧ (s.takeSequence q).pending = s.pending := by
  simp [State.takeSequence]

/-- Stages 2 to 8 of a sample change the chain, the cache and the staleness count alone (R16). -/
@[simp] theorem State.correctSample_frame (l : Live) (c : Option CacheEntry) :
    (s.correctSample l c).clock = s.clock ∧ (s.correctSample l c).survey = s.survey ∧
      (s.correctSample l c).bases = s.bases ∧ (s.correctSample l c).loop = s.loop ∧
      (s.correctSample l c).queue = s.queue ∧ (s.correctSample l c).log = s.log ∧ (s.correctSample l c).mark = s.mark ∧
      (s.correctSample l c).meter = s.meter ∧ (s.correctSample l c).uart = s.uart ∧
      (s.correctSample l c).closurePos = s.closurePos ∧ (s.correctSample l c).pendingPos = s.pendingPos ∧
      (s.correctSample l c).store = s.store ∧ (s.correctSample l c).nv = s.nv ∧
      (s.correctSample l c).supply = s.supply ∧ (s.correctSample l c).startUp = s.startUp ∧
      (s.correctSample l c).pins = s.pins ∧ (s.correctSample l c).free = s.free ∧
      (s.correctSample l c).pauses = s.pauses ∧ (s.correctSample l c).pending = s.pending := by
  simp [State.correctSample]

/-- A sample in SETTLING changes the occupation controller and the event sets alone (R69). -/
@[simp] theorem State.settlingSample_frame (q : Nat) (l : Live) :
    (s.settlingSample q l).clock = s.clock ∧ (s.settlingSample q l).survey = s.survey ∧
      (s.settlingSample q l).bases = s.bases ∧ (s.settlingSample q l).loop = s.loop ∧
      (s.settlingSample q l).queue = s.queue ∧ (s.settlingSample q l).log = s.log ∧
      (s.settlingSample q l).mark = s.mark ∧ (s.settlingSample q l).chain = s.chain ∧
      (s.settlingSample q l).cache = s.cache ∧ (s.settlingSample q l).closurePos = s.closurePos ∧
      (s.settlingSample q l).pendingPos = s.pendingPos ∧ (s.settlingSample q l).store = s.store ∧
      (s.settlingSample q l).nv = s.nv ∧ (s.settlingSample q l).supply = s.supply ∧
      (s.settlingSample q l).startUp = s.startUp ∧ (s.settlingSample q l).pins = s.pins ∧
      (s.settlingSample q l).free = s.free ∧ (s.settlingSample q l).pauses = s.pauses ∧
      (s.settlingSample q l).pending = s.pending := by
  unfold State.settlingSample
  dsimp only
  repeat' split
  all_goals simp

/-- A sample in SETTLED changes the occupation controller, the active record and the event sets alone (R70, R71). -/
@[simp] theorem State.settledSample_frame (q : Nat) (l : Live) :
    (s.settledSample q l).clock = s.clock ∧ (s.settledSample q l).survey = s.survey ∧
      (s.settledSample q l).bases = s.bases ∧ (s.settledSample q l).loop = s.loop ∧
      (s.settledSample q l).queue = s.queue ∧ (s.settledSample q l).mark = s.mark ∧
      (s.settledSample q l).chain = s.chain ∧ (s.settledSample q l).cache = s.cache ∧
      (s.settledSample q l).closurePos = s.closurePos ∧ (s.settledSample q l).pendingPos = s.pendingPos ∧
      (s.settledSample q l).store = s.store ∧ (s.settledSample q l).nv = s.nv ∧
      (s.settledSample q l).supply = s.supply ∧ (s.settledSample q l).startUp = s.startUp ∧
      (s.settledSample q l).pins = s.pins ∧ (s.settledSample q l).free = s.free ∧
      (s.settledSample q l).pauses = s.pauses ∧ (s.settledSample q l).pending = s.pending := by
  unfold State.settledSample
  dsimp only
  repeat' split
  all_goals simp

/-- A sample handed on changes no more than that (R35). -/
@[simp] theorem State.handSample_frame (l : Live) :
    (s.handSample l).clock = s.clock ∧ (s.handSample l).survey = s.survey ∧ (s.handSample l).bases = s.bases ∧
      (s.handSample l).loop = s.loop ∧ (s.handSample l).queue = s.queue ∧ (s.handSample l).mark = s.mark ∧
      (s.handSample l).chain = s.chain ∧ (s.handSample l).cache = s.cache ∧
      (s.handSample l).closurePos = s.closurePos ∧ (s.handSample l).pendingPos = s.pendingPos ∧
      (s.handSample l).store = s.store ∧ (s.handSample l).nv = s.nv ∧ (s.handSample l).supply = s.supply ∧
      (s.handSample l).startUp = s.startUp ∧ (s.handSample l).pins = s.pins ∧ (s.handSample l).free = s.free ∧
      (s.handSample l).pauses = s.pauses ∧ (s.handSample l).pending = s.pending := by
  unfold State.handSample
  split <;> simp

/-- A record that joins changes the log and the event sets alone (R96). -/
@[simp] theorem State.appendRecord_frame (r : Record) :
    (s.appendRecord r).clock = s.clock ∧ (s.appendRecord r).survey = s.survey ∧ (s.appendRecord r).bases = s.bases ∧
      (s.appendRecord r).loop = s.loop ∧ (s.appendRecord r).queue = s.queue ∧ (s.appendRecord r).mark = s.mark ∧
      (s.appendRecord r).chain = s.chain ∧ (s.appendRecord r).cache = s.cache ∧ (s.appendRecord r).occ = s.occ ∧
      (s.appendRecord r).closurePos = s.closurePos ∧ (s.appendRecord r).pendingPos = s.pendingPos ∧
      (s.appendRecord r).store = s.store ∧ (s.appendRecord r).nv = s.nv ∧ (s.appendRecord r).supply = s.supply ∧
      (s.appendRecord r).startUp = s.startUp ∧ (s.appendRecord r).pins = s.pins ∧ (s.appendRecord r).free = s.free ∧
      (s.appendRecord r).pauses = s.pauses ∧ (s.appendRecord r).pending = s.pending := by
  unfold State.appendRecord
  dsimp only
  split <;> simp

/-- The line advanced changes the survey controller alone (R66). -/
@[simp] theorem State.advanceLine_frame (o : Start) :
    (s.advanceLine o).clock = s.clock ∧ (s.advanceLine o).bases = s.bases ∧ (s.advanceLine o).loop = s.loop ∧
      (s.advanceLine o).queue = s.queue ∧ (s.advanceLine o).log = s.log ∧ (s.advanceLine o).mark = s.mark ∧
      (s.advanceLine o).meter = s.meter ∧ (s.advanceLine o).uart = s.uart ∧ (s.advanceLine o).chain = s.chain ∧
      (s.advanceLine o).cache = s.cache ∧ (s.advanceLine o).occ = s.occ ∧ (s.advanceLine o).closurePos = s.closurePos ∧
      (s.advanceLine o).pendingPos = s.pendingPos ∧ (s.advanceLine o).store = s.store ∧ (s.advanceLine o).nv = s.nv ∧
      (s.advanceLine o).supply = s.supply ∧ (s.advanceLine o).startUp = s.startUp ∧ (s.advanceLine o).pins = s.pins ∧
      (s.advanceLine o).free = s.free ∧ (s.advanceLine o).pauses = s.pauses ∧ (s.advanceLine o).pending = s.pending := by
  unfold State.advanceLine
  split <;> simp

/-- An occupation that begins changes the log, the line, the occupation controller and the event sets alone (R65). -/
@[simp] theorem State.startOccupation_frame (p : Port) (o : Start) :
    (s.startOccupation p o).clock = s.clock ∧ (s.startOccupation p o).bases = s.bases ∧
      (s.startOccupation p o).loop = s.loop ∧ (s.startOccupation p o).queue = s.queue ∧
      (s.startOccupation p o).mark = s.mark ∧ (s.startOccupation p o).chain = s.chain ∧
      (s.startOccupation p o).cache = s.cache ∧ (s.startOccupation p o).closurePos = s.closurePos ∧
      (s.startOccupation p o).pendingPos = s.pendingPos ∧ (s.startOccupation p o).store = s.store ∧
      (s.startOccupation p o).nv = s.nv ∧ (s.startOccupation p o).supply = s.supply ∧
      (s.startOccupation p o).startUp = s.startUp ∧ (s.startOccupation p o).pins = s.pins ∧
      (s.startOccupation p o).free = s.free ∧ (s.startOccupation p o).pauses = s.pauses ∧
      (s.startOccupation p o).pending = s.pending := by
  simp [State.startOccupation]

/-- A record written back changes the log alone (R95). -/
@[simp] theorem State.putRecord_frame (r : Record) :
    (s.putRecord r).clock = s.clock ∧ (s.putRecord r).survey = s.survey ∧ (s.putRecord r).bases = s.bases ∧
      (s.putRecord r).loop = s.loop ∧ (s.putRecord r).queue = s.queue ∧ (s.putRecord r).mark = s.mark ∧
      (s.putRecord r).meter = s.meter ∧ (s.putRecord r).uart = s.uart ∧ (s.putRecord r).chain = s.chain ∧
      (s.putRecord r).cache = s.cache ∧ (s.putRecord r).occ = s.occ ∧ (s.putRecord r).closurePos = s.closurePos ∧
      (s.putRecord r).pendingPos = s.pendingPos ∧ (s.putRecord r).store = s.store ∧ (s.putRecord r).nv = s.nv ∧
      (s.putRecord r).supply = s.supply ∧ (s.putRecord r).startUp = s.startUp ∧ (s.putRecord r).pins = s.pins ∧
      (s.putRecord r).free = s.free ∧ (s.putRecord r).pauses = s.pauses ∧ (s.putRecord r).pending = s.pending := by
  simp [State.putRecord]

/-- A FIRST tie changes the log, the loop context and the event sets alone (R116). -/
@[simp] theorem State.firstTie_frame (r : Record) (b : Tie) :
    (s.firstTie r b).clock = s.clock ∧ (s.firstTie r b).survey = s.survey ∧ (s.firstTie r b).bases = s.bases ∧
      (s.firstTie r b).queue = s.queue ∧ (s.firstTie r b).mark = s.mark ∧ (s.firstTie r b).chain = s.chain ∧
      (s.firstTie r b).cache = s.cache ∧ (s.firstTie r b).occ = s.occ ∧ (s.firstTie r b).closurePos = s.closurePos ∧
      (s.firstTie r b).pendingPos = s.pendingPos ∧ (s.firstTie r b).store = s.store ∧ (s.firstTie r b).nv = s.nv ∧
      (s.firstTie r b).supply = s.supply ∧ (s.firstTie r b).startUp = s.startUp ∧ (s.firstTie r b).pins = s.pins ∧
      (s.firstTie r b).free = s.free ∧ (s.firstTie r b).pauses = s.pauses ∧ (s.firstTie r b).pending = s.pending := by
  simp [State.firstTie]

/-- A CLOSING tie changes the queue and the closure in flight too (R117). -/
@[simp] theorem State.closingTie_frame (r : Record) (a b : Tie) :
    (s.closingTie r a b).clock = s.clock ∧ (s.closingTie r a b).survey = s.survey ∧
      (s.closingTie r a b).bases = s.bases ∧ (s.closingTie r a b).mark = s.mark ∧
      (s.closingTie r a b).chain = s.chain ∧ (s.closingTie r a b).cache = s.cache ∧ (s.closingTie r a b).occ = s.occ ∧
      (s.closingTie r a b).pendingPos = s.pendingPos ∧ (s.closingTie r a b).store = s.store ∧
      (s.closingTie r a b).nv = s.nv ∧ (s.closingTie r a b).supply = s.supply ∧
      (s.closingTie r a b).startUp = s.startUp ∧ (s.closingTie r a b).pins = s.pins ∧
      (s.closingTie r a b).free = s.free ∧ (s.closingTie r a b).pauses = s.pauses ∧
      (s.closingTie r a b).pending = s.pending := by
  unfold State.closingTie
  dsimp only
  split <;> simp

/-- The loop engine at END changes its own state, the log and the event sets alone (R115). -/
@[simp] theorem State.reduceEnded_frame (r : Record) :
    (s.reduceEnded r).clock = s.clock ∧ (s.reduceEnded r).survey = s.survey ∧ (s.reduceEnded r).bases = s.bases ∧
      (s.reduceEnded r).mark = s.mark ∧ (s.reduceEnded r).chain = s.chain ∧ (s.reduceEnded r).cache = s.cache ∧
      (s.reduceEnded r).occ = s.occ ∧ (s.reduceEnded r).pendingPos = s.pendingPos ∧ (s.reduceEnded r).store = s.store ∧
      (s.reduceEnded r).nv = s.nv ∧ (s.reduceEnded r).supply = s.supply ∧ (s.reduceEnded r).startUp = s.startUp ∧
      (s.reduceEnded r).pins = s.pins ∧ (s.reduceEnded r).free = s.free ∧ (s.reduceEnded r).pauses = s.pauses ∧
      (s.reduceEnded r).pending = s.pending := by
  unfold State.reduceEnded
  repeat' split
  all_goals simp

/-- The return to NONE changes the occupation controller alone (R60). -/
@[simp] theorem State.idleOccupation_frame :
    s.idleOccupation.clock = s.clock ∧ s.idleOccupation.survey = s.survey ∧ s.idleOccupation.bases = s.bases ∧
      s.idleOccupation.loop = s.loop ∧ s.idleOccupation.queue = s.queue ∧ s.idleOccupation.log = s.log ∧
      s.idleOccupation.mark = s.mark ∧ s.idleOccupation.meter = s.meter ∧ s.idleOccupation.uart = s.uart ∧
      s.idleOccupation.chain = s.chain ∧ s.idleOccupation.cache = s.cache ∧
      s.idleOccupation.closurePos = s.closurePos ∧ s.idleOccupation.pendingPos = s.pendingPos ∧
      s.idleOccupation.store = s.store ∧ s.idleOccupation.nv = s.nv ∧ s.idleOccupation.supply = s.supply ∧
      s.idleOccupation.startUp = s.startUp ∧ s.idleOccupation.pins = s.pins ∧ s.idleOccupation.free = s.free ∧
      s.idleOccupation.pauses = s.pauses ∧ s.idleOccupation.pending = s.pending := by
  simp [State.idleOccupation]

/-- An accepted END changes the log, the loop engine, the occupation controller and the event sets alone (R82). -/
@[simp] theorem State.endAccepted_frame (p : Port) (r : Record) :
    (s.endAccepted p r).clock = s.clock ∧ (s.endAccepted p r).survey = s.survey ∧ (s.endAccepted p r).bases = s.bases ∧
      (s.endAccepted p r).mark = s.mark ∧ (s.endAccepted p r).chain = s.chain ∧ (s.endAccepted p r).cache = s.cache ∧
      (s.endAccepted p r).pendingPos = s.pendingPos ∧ (s.endAccepted p r).store = s.store ∧
      (s.endAccepted p r).nv = s.nv ∧ (s.endAccepted p r).supply = s.supply ∧ (s.endAccepted p r).startUp = s.startUp ∧
      (s.endAccepted p r).pins = s.pins ∧ (s.endAccepted p r).free = s.free ∧ (s.endAccepted p r).pauses = s.pauses ∧
      (s.endAccepted p r).pending = s.pending := by
  simp [State.endAccepted]

/-- An accepted ABANDON changes the log, the occupation controller and the event sets alone (R83). -/
@[simp] theorem State.abandonAccepted_frame (p : Port) (r : Record) :
    (s.abandonAccepted p r).clock = s.clock ∧ (s.abandonAccepted p r).survey = s.survey ∧
      (s.abandonAccepted p r).bases = s.bases ∧ (s.abandonAccepted p r).loop = s.loop ∧
      (s.abandonAccepted p r).queue = s.queue ∧ (s.abandonAccepted p r).mark = s.mark ∧
      (s.abandonAccepted p r).chain = s.chain ∧ (s.abandonAccepted p r).cache = s.cache ∧
      (s.abandonAccepted p r).closurePos = s.closurePos ∧ (s.abandonAccepted p r).pendingPos = s.pendingPos ∧
      (s.abandonAccepted p r).store = s.store ∧ (s.abandonAccepted p r).nv = s.nv ∧
      (s.abandonAccepted p r).supply = s.supply ∧ (s.abandonAccepted p r).startUp = s.startUp ∧
      (s.abandonAccepted p r).pins = s.pins ∧ (s.abandonAccepted p r).free = s.free ∧
      (s.abandonAccepted p r).pauses = s.pauses ∧ (s.abandonAccepted p r).pending = s.pending := by
  simp [State.abandonAccepted]

/-- A closure that completes changes the queue, the position p and the event sets alone (R126). -/
@[simp] theorem State.closureDone_frame :
    s.closureDone.clock = s.clock ∧ s.closureDone.survey = s.survey ∧ s.closureDone.bases = s.bases ∧
      s.closureDone.loop = s.loop ∧ s.closureDone.log = s.log ∧ s.closureDone.mark = s.mark ∧
      s.closureDone.chain = s.chain ∧ s.closureDone.cache = s.cache ∧ s.closureDone.occ = s.occ ∧
      s.closureDone.pendingPos = s.pendingPos ∧ s.closureDone.store = s.store ∧ s.closureDone.nv = s.nv ∧
      s.closureDone.supply = s.supply ∧ s.closureDone.startUp = s.startUp ∧ s.closureDone.pins = s.pins ∧
      s.closureDone.free = s.free ∧ s.closureDone.pauses = s.pauses ∧ s.closureDone.pending = s.pending := by
  simp [State.closureDone]

/-- A closure step changes the log, the queue, the position p and the event sets alone (R123). -/
@[simp] theorem State.closureStep_frame :
    s.closureStep.clock = s.clock ∧ s.closureStep.survey = s.survey ∧ s.closureStep.bases = s.bases ∧
      s.closureStep.loop = s.loop ∧ s.closureStep.mark = s.mark ∧ s.closureStep.chain = s.chain ∧
      s.closureStep.cache = s.cache ∧ s.closureStep.occ = s.occ ∧ s.closureStep.pendingPos = s.pendingPos ∧
      s.closureStep.store = s.store ∧ s.closureStep.nv = s.nv ∧ s.closureStep.supply = s.supply ∧
      s.closureStep.startUp = s.startUp ∧ s.closureStep.pins = s.pins ∧ s.closureStep.free = s.free ∧
      s.closureStep.pauses = s.pauses ∧ s.closureStep.pending = s.pending := by
  unfold State.closureStep
  repeat' split
  all_goals simp

/-- CLOSE SURVEY's work on the loops changes the log and the loop context alone (R129). -/
@[simp] theorem State.closeLoops_frame :
    s.closeLoops.clock = s.clock ∧ s.closeLoops.survey = s.survey ∧ s.closeLoops.bases = s.bases ∧
      s.closeLoops.queue = s.queue ∧ s.closeLoops.mark = s.mark ∧ s.closeLoops.meter = s.meter ∧
      s.closeLoops.uart = s.uart ∧ s.closeLoops.chain = s.chain ∧ s.closeLoops.cache = s.cache ∧
      s.closeLoops.occ = s.occ ∧ s.closeLoops.closurePos = s.closurePos ∧ s.closeLoops.pendingPos = s.pendingPos ∧
      s.closeLoops.store = s.store ∧ s.closeLoops.nv = s.nv ∧ s.closeLoops.supply = s.supply ∧
      s.closeLoops.startUp = s.startUp ∧ s.closeLoops.pins = s.pins ∧ s.closeLoops.free = s.free ∧
      s.closeLoops.pauses = s.pauses ∧ s.closeLoops.pending = s.pending := by
  unfold State.closeLoops
  dsimp only
  split <;> simp

/-- OPEN SURVEY's work on the loops changes the loop context alone (R114). -/
@[simp] theorem State.openLoops_frame :
    s.openLoops.clock = s.clock ∧ s.openLoops.survey = s.survey ∧ s.openLoops.bases = s.bases ∧
      s.openLoops.queue = s.queue ∧ s.openLoops.log = s.log ∧ s.openLoops.mark = s.mark ∧ s.openLoops.meter = s.meter ∧
      s.openLoops.uart = s.uart ∧ s.openLoops.chain = s.chain ∧ s.openLoops.cache = s.cache ∧ s.openLoops.occ = s.occ ∧
      s.openLoops.closurePos = s.closurePos ∧ s.openLoops.pendingPos = s.pendingPos ∧ s.openLoops.store = s.store ∧
      s.openLoops.nv = s.nv ∧ s.openLoops.supply = s.supply ∧ s.openLoops.startUp = s.startUp ∧
      s.openLoops.pins = s.pins ∧ s.openLoops.free = s.free ∧ s.openLoops.pauses = s.pauses ∧
      s.openLoops.pending = s.pending := by
  simp [State.openLoops]

/-- A commit that completes changes the store, the survey state and the event sets alone (R153). -/
@[simp] theorem State.commitDone_frame (w : Bool) :
    (s.commitDone w).clock = s.clock ∧ (s.commitDone w).bases = s.bases ∧ (s.commitDone w).loop = s.loop ∧
      (s.commitDone w).queue = s.queue ∧ (s.commitDone w).log = s.log ∧ (s.commitDone w).mark = s.mark ∧
      (s.commitDone w).chain = s.chain ∧ (s.commitDone w).cache = s.cache ∧ (s.commitDone w).occ = s.occ ∧
      (s.commitDone w).closurePos = s.closurePos ∧ (s.commitDone w).pendingPos = s.pendingPos ∧
      (s.commitDone w).nv = s.nv ∧ (s.commitDone w).supply = s.supply ∧ (s.commitDone w).startUp = s.startUp ∧
      (s.commitDone w).pins = s.pins ∧ (s.commitDone w).free = s.free ∧ (s.commitDone w).pauses = s.pauses ∧
      (s.commitDone w).pending = s.pending := by
  simp [State.commitDone]

/-- A commit that goes on changes the images too (R152). -/
@[simp] theorem State.commitFrom_frame (w k : Bool) (bs : List Block) :
    (s.commitFrom w k bs).clock = s.clock ∧ (s.commitFrom w k bs).bases = s.bases ∧
      (s.commitFrom w k bs).loop = s.loop ∧ (s.commitFrom w k bs).queue = s.queue ∧ (s.commitFrom w k bs).log = s.log ∧
      (s.commitFrom w k bs).mark = s.mark ∧ (s.commitFrom w k bs).chain = s.chain ∧
      (s.commitFrom w k bs).cache = s.cache ∧ (s.commitFrom w k bs).occ = s.occ ∧
      (s.commitFrom w k bs).closurePos = s.closurePos ∧ (s.commitFrom w k bs).pendingPos = s.pendingPos ∧
      (s.commitFrom w k bs).supply = s.supply ∧ (s.commitFrom w k bs).startUp = s.startUp ∧
      (s.commitFrom w k bs).pins = s.pins ∧ (s.commitFrom w k bs).free = s.free ∧
      (s.commitFrom w k bs).pauses = s.pauses ∧ (s.commitFrom w k bs).pending = s.pending := by
  induction bs generalizing s with
  | nil => simp [State.commitFrom]
  | cons b rest ih =>
    unfold State.commitFrom
    split
    · simp [ih]
    · cases k <;> simp

/-- A block write that completes changes no more than that (R152). -/
@[simp] theorem State.blockWritten_frame :
    s.blockWritten.clock = s.clock ∧ s.blockWritten.bases = s.bases ∧ s.blockWritten.loop = s.loop ∧
      s.blockWritten.queue = s.queue ∧ s.blockWritten.log = s.log ∧ s.blockWritten.mark = s.mark ∧
      s.blockWritten.chain = s.chain ∧ s.blockWritten.cache = s.cache ∧ s.blockWritten.occ = s.occ ∧
      s.blockWritten.closurePos = s.closurePos ∧ s.blockWritten.pendingPos = s.pendingPos ∧
      s.blockWritten.supply = s.supply ∧ s.blockWritten.startUp = s.startUp ∧ s.blockWritten.pins = s.pins ∧
      s.blockWritten.free = s.free ∧ s.blockWritten.pauses = s.pauses ∧ s.blockWritten.pending = s.pending := by
  unfold State.blockWritten
  split <;> simp

/-- Stage 3 of a restart changes the store alone (R156). -/
@[simp] theorem State.reloadConstants_frame :
    s.reloadConstants.clock = s.clock ∧ s.reloadConstants.survey = s.survey ∧ s.reloadConstants.bases = s.bases ∧
      s.reloadConstants.loop = s.loop ∧ s.reloadConstants.queue = s.queue ∧ s.reloadConstants.log = s.log ∧
      s.reloadConstants.mark = s.mark ∧ s.reloadConstants.meter = s.meter ∧ s.reloadConstants.uart = s.uart ∧
      s.reloadConstants.chain = s.chain ∧ s.reloadConstants.cache = s.cache ∧ s.reloadConstants.occ = s.occ ∧
      s.reloadConstants.closurePos = s.closurePos ∧ s.reloadConstants.pendingPos = s.pendingPos ∧
      s.reloadConstants.nv = s.nv ∧ s.reloadConstants.supply = s.supply ∧ s.reloadConstants.startUp = s.startUp ∧
      s.reloadConstants.pins = s.pins ∧ s.reloadConstants.free = s.free ∧ s.reloadConstants.pauses = s.pauses ∧
      s.reloadConstants.pending = s.pending := by
  simp [State.reloadConstants]

/-- Stage 4 of a restart changes the survey state alone (R142). -/
@[simp] theorem State.adjustSurvey_frame :
    s.adjustSurvey.clock = s.clock ∧ s.adjustSurvey.bases = s.bases ∧ s.adjustSurvey.loop = s.loop ∧
      s.adjustSurvey.queue = s.queue ∧ s.adjustSurvey.log = s.log ∧ s.adjustSurvey.mark = s.mark ∧
      s.adjustSurvey.meter = s.meter ∧ s.adjustSurvey.uart = s.uart ∧ s.adjustSurvey.chain = s.chain ∧
      s.adjustSurvey.cache = s.cache ∧ s.adjustSurvey.occ = s.occ ∧ s.adjustSurvey.closurePos = s.closurePos ∧
      s.adjustSurvey.pendingPos = s.pendingPos ∧ s.adjustSurvey.store = s.store ∧ s.adjustSurvey.nv = s.nv ∧
      s.adjustSurvey.supply = s.supply ∧ s.adjustSurvey.startUp = s.startUp ∧ s.adjustSurvey.pins = s.pins ∧
      s.adjustSurvey.free = s.free ∧ s.adjustSurvey.pauses = s.pauses ∧ s.adjustSurvey.pending = s.pending := by
  simp [State.adjustSurvey]

/-- Stage 5 of a restart changes the closure in flight alone (R139). -/
@[simp] theorem State.endStartUp_frame :
    s.endStartUp.clock = s.clock ∧ s.endStartUp.survey = s.survey ∧ s.endStartUp.bases = s.bases ∧
      s.endStartUp.loop = s.loop ∧ s.endStartUp.queue = s.queue ∧ s.endStartUp.log = s.log ∧
      s.endStartUp.mark = s.mark ∧ s.endStartUp.meter = s.meter ∧ s.endStartUp.uart = s.uart ∧
      s.endStartUp.chain = s.chain ∧ s.endStartUp.cache = s.cache ∧ s.endStartUp.occ = s.occ ∧
      s.endStartUp.pendingPos = s.pendingPos ∧ s.endStartUp.store = s.store ∧ s.endStartUp.nv = s.nv ∧
      s.endStartUp.supply = s.supply ∧ s.endStartUp.pins = s.pins ∧ s.endStartUp.free = s.free ∧
      s.endStartUp.pauses = s.pauses ∧ s.endStartUp.pending = s.pending := by
  simp [State.endStartUp]

/-- Stage 2 of a restart changes the main domain alone (R143). -/
@[simp] theorem State.resetMain_frame (b : Bool) :
    (s.resetMain b).clock = s.clock ∧ (s.resetMain b).survey = s.survey ∧ (s.resetMain b).bases = s.bases ∧
      (s.resetMain b).loop = s.loop ∧ (s.resetMain b).queue = s.queue ∧ (s.resetMain b).log = s.log ∧
      (s.resetMain b).mark = s.mark ∧ (s.resetMain b).store = s.store ∧ (s.resetMain b).nv = s.nv ∧
      (s.resetMain b).supply = s.supply ∧ (s.resetMain b).startUp = s.startUp ∧ (s.resetMain b).pins = s.pins ∧
      (s.resetMain b).free = s.free ∧ (s.resetMain b).pauses = s.pauses ∧ (s.resetMain b).pending = s.pending := by
  simp [State.resetMain]

/-- A stage of a restart after the first leaves the retained domain but for the survey state (R139). -/
@[simp] theorem State.takeStage_frame (b : Bool) :
    (s.takeStage b).clock = s.clock ∧ (s.takeStage b).bases = s.bases ∧ (s.takeStage b).loop = s.loop ∧
      (s.takeStage b).queue = s.queue ∧ (s.takeStage b).log = s.log ∧ (s.takeStage b).mark = s.mark ∧
      (s.takeStage b).nv = s.nv ∧ (s.takeStage b).supply = s.supply ∧ (s.takeStage b).pins = s.pins ∧
      (s.takeStage b).free = s.free ∧ (s.takeStage b).pauses = s.pauses ∧ (s.takeStage b).pending = s.pending := by
  unfold State.takeStage
  split <;> simp

/-- Stage 1 of a POWER_LOST restart changes the retained domain alone (R141). -/
@[simp] theorem State.clearRetained_frame :
    s.clearRetained.meter = s.meter ∧ s.clearRetained.uart = s.uart ∧ s.clearRetained.chain = s.chain ∧
      s.clearRetained.cache = s.cache ∧ s.clearRetained.occ = s.occ ∧ s.clearRetained.closurePos = s.closurePos ∧
      s.clearRetained.pendingPos = s.pendingPos ∧ s.clearRetained.store = s.store ∧ s.clearRetained.nv = s.nv ∧
      s.clearRetained.supply = s.supply ∧ s.clearRetained.startUp = s.startUp ∧ s.clearRetained.pins = s.pins ∧
      s.clearRetained.free = s.free ∧ s.clearRetained.pauses = s.pauses ∧ s.clearRetained.pending = s.pending := by
  simp [State.clearRetained]

/-- What a restart cuts short (R145, R156). -/
@[simp] theorem State.cutShort_frame :
    s.cutShort.clock = s.clock ∧ s.cutShort.survey = s.survey ∧ s.cutShort.bases = s.bases ∧ s.cutShort.loop = s.loop ∧
      s.cutShort.queue = s.queue ∧ s.cutShort.log = s.log ∧ s.cutShort.mark = s.mark ∧ s.cutShort.chain = s.chain ∧
      s.cutShort.cache = s.cache ∧ s.cutShort.occ = s.occ ∧ s.cutShort.closurePos = s.closurePos ∧
      s.cutShort.pendingPos = s.pendingPos ∧ s.cutShort.nv = s.nv ∧ s.cutShort.supply = s.supply ∧
      s.cutShort.startUp = s.startUp ∧ s.cutShort.pins = s.pins ∧ s.cutShort.free = s.free ∧
      s.cutShort.pauses = s.pauses ∧ s.cutShort.pending = s.pending := by
  simp [State.cutShort]

/-- A restart that begins leaves the rest of the main domain for stage 2 (R139). -/
@[simp] theorem State.beginRestart_frame (c : Cause) :
    (s.beginRestart c).chain = s.chain ∧ (s.beginRestart c).cache = s.cache ∧ (s.beginRestart c).occ = s.occ ∧
      (s.beginRestart c).closurePos = s.closurePos ∧ (s.beginRestart c).pendingPos = s.pendingPos ∧
      (s.beginRestart c).nv = s.nv ∧ (s.beginRestart c).pins = s.pins ∧ (s.beginRestart c).free = s.free ∧
      (s.beginRestart c).pauses = s.pauses ∧ (s.beginRestart c).pending = s.pending := by
  unfold State.beginRestart
  dsimp only
  split <;> simp

/-- The loss of the main domain (R137). -/
@[simp] theorem State.mainFrom_frame (g : State) :
    (s.mainFrom g).clock = s.clock ∧ (s.mainFrom g).survey = s.survey ∧ (s.mainFrom g).bases = s.bases ∧
      (s.mainFrom g).loop = s.loop ∧ (s.mainFrom g).queue = s.queue ∧ (s.mainFrom g).log = s.log ∧
      (s.mainFrom g).mark = s.mark ∧ (s.mainFrom g).nv = s.nv ∧ (s.mainFrom g).supply = s.supply ∧
      (s.mainFrom g).startUp = s.startUp ∧ (s.mainFrom g).pins = s.pins ∧ (s.mainFrom g).free = s.free ∧
      (s.mainFrom g).pauses = s.pauses ∧ (s.mainFrom g).pending = s.pending := by
  simp [State.mainFrom]

/-- The loss of the retained domain (R137). -/
@[simp] theorem State.retainedFrom_frame (g : State) :
    (s.retainedFrom g).meter = s.meter ∧ (s.retainedFrom g).uart = s.uart ∧ (s.retainedFrom g).chain = s.chain ∧
      (s.retainedFrom g).cache = s.cache ∧ (s.retainedFrom g).occ = s.occ ∧
      (s.retainedFrom g).closurePos = s.closurePos ∧ (s.retainedFrom g).pendingPos = s.pendingPos ∧
      (s.retainedFrom g).store = s.store ∧ (s.retainedFrom g).nv = s.nv ∧ (s.retainedFrom g).supply = s.supply ∧
      (s.retainedFrom g).startUp = s.startUp ∧ (s.retainedFrom g).pins = s.pins ∧ (s.retainedFrom g).free = s.free ∧
      (s.retainedFrom g).pauses = s.pauses ∧ (s.retainedFrom g).pending = s.pending := by
  simp [State.retainedFrom]

/-- The next free value. -/
@[simp] theorem State.nextFree_frame :
    s.nextFree.clock = s.clock ∧ s.nextFree.survey = s.survey ∧ s.nextFree.bases = s.bases ∧ s.nextFree.loop = s.loop ∧
      s.nextFree.queue = s.queue ∧ s.nextFree.log = s.log ∧ s.nextFree.mark = s.mark ∧ s.nextFree.meter = s.meter ∧
      s.nextFree.uart = s.uart ∧ s.nextFree.chain = s.chain ∧ s.nextFree.cache = s.cache ∧ s.nextFree.occ = s.occ ∧
      s.nextFree.closurePos = s.closurePos ∧ s.nextFree.pendingPos = s.pendingPos ∧ s.nextFree.store = s.store ∧
      s.nextFree.nv = s.nv ∧ s.nextFree.supply = s.supply ∧ s.nextFree.startUp = s.startUp ∧ s.nextFree.pins = s.pins ∧
      s.nextFree.pauses = s.pauses ∧ s.nextFree.pending = s.pending := by
  simp [State.nextFree]

end Sys2Proof.Machine
end

