-- ==== Sys2Proof/Laws/Requests.lean ====
section
/-! SUPPORT. For each request, one lemma that says which fields its operation leaves whatever its answer; then, for each field, the
requests that can change it. -/

namespace Sys2Proof.Machine

/-- An accepted request's state is the one given. -/
@[simp] theorem accept_state (s : State) (pl : Payload) : (accept s pl).1 = s := rfl

/-- A refused request leaves the state (R162). -/
@[simp] theorem refuse_state (s : State) (st : Status) : (refuse s st).1 = s := rfl

/-- A restart that keeps the retained domain (R141). -/
theorem State.beginRestart_kept (s : State) {c : Cause} (h : c ≠ .powerLost) :
    (s.beginRestart c).clock = s.clock ∧ (s.beginRestart c).bases = s.bases ∧ (s.beginRestart c).loop = s.loop ∧
      (s.beginRestart c).queue = s.queue ∧ (s.beginRestart c).mark = s.mark ∧
      (s.beginRestart c).survey = { s.survey with lastCause := c } ∧
      (s.beginRestart c).log =
        { s.log with records := s.log.records.map (abandonRecord s.clock.value c.endCause) } := by
  simp [State.beginRestart, h, State.cutShort]

section
variable (s : State)

@[simp] theorem opSample_frame (p : Port) (q : Byte) (r : U32) (tx ty dT : U16) (f : Byte) :
    (opSample p q r tx ty dT f s).1.clock = s.clock ∧ (opSample p q r tx ty dT f s).1.survey = s.survey ∧
      (opSample p q r tx ty dT f s).1.bases = s.bases ∧ (opSample p q r tx ty dT f s).1.loop = s.loop ∧
      (opSample p q r tx ty dT f s).1.queue = s.queue ∧ (opSample p q r tx ty dT f s).1.mark = s.mark ∧
      (opSample p q r tx ty dT f s).1.closurePos = s.closurePos ∧
      (opSample p q r tx ty dT f s).1.pendingPos = s.pendingPos ∧ (opSample p q r tx ty dT f s).1.store = s.store ∧
      (opSample p q r tx ty dT f s).1.nv = s.nv ∧ (opSample p q r tx ty dT f s).1.supply = s.supply ∧
      (opSample p q r tx ty dT f s).1.startUp = s.startUp ∧ (opSample p q r tx ty dT f s).1.pins = s.pins ∧
      (opSample p q r tx ty dT f s).1.free = s.free ∧ (opSample p q r tx ty dT f s).1.pauses = s.pauses ∧
      (opSample p q r tx ty dT f s).1.pending = s.pending := by
  unfold opSample
  repeat' split
  all_goals simp

@[simp] theorem opReadLive_frame :
    (opReadLive s).1.clock = s.clock ∧ (opReadLive s).1.survey = s.survey ∧ (opReadLive s).1.bases = s.bases ∧
      (opReadLive s).1.loop = s.loop ∧ (opReadLive s).1.queue = s.queue ∧ (opReadLive s).1.log = s.log ∧
      (opReadLive s).1.mark = s.mark ∧ (opReadLive s).1.chain = s.chain ∧ (opReadLive s).1.cache = s.cache ∧
      (opReadLive s).1.occ = s.occ ∧ (opReadLive s).1.closurePos = s.closurePos ∧
      (opReadLive s).1.pendingPos = s.pendingPos ∧ (opReadLive s).1.store = s.store ∧ (opReadLive s).1.nv = s.nv ∧
      (opReadLive s).1.supply = s.supply ∧ (opReadLive s).1.startUp = s.startUp ∧ (opReadLive s).1.pins = s.pins ∧
      (opReadLive s).1.free = s.free ∧ (opReadLive s).1.pauses = s.pauses ∧ (opReadLive s).1.pending = s.pending := by
  simp [opReadLive]

@[simp] theorem opStatus_frame :
    (opStatus s).1.clock = s.clock ∧ (opStatus s).1.survey = s.survey ∧ (opStatus s).1.bases = s.bases ∧
      (opStatus s).1.loop = s.loop ∧ (opStatus s).1.queue = s.queue ∧ (opStatus s).1.log = s.log ∧
      (opStatus s).1.mark = s.mark ∧ (opStatus s).1.chain = s.chain ∧ (opStatus s).1.cache = s.cache ∧
      (opStatus s).1.occ = s.occ ∧ (opStatus s).1.closurePos = s.closurePos ∧
      (opStatus s).1.pendingPos = s.pendingPos ∧ (opStatus s).1.store = s.store ∧ (opStatus s).1.nv = s.nv ∧
      (opStatus s).1.supply = s.supply ∧ (opStatus s).1.startUp = s.startUp ∧ (opStatus s).1.pins = s.pins ∧
      (opStatus s).1.free = s.free ∧ (opStatus s).1.pauses = s.pauses ∧ (opStatus s).1.pending = s.pending := by
  simp [opStatus]

@[simp] theorem opReadClock_frame :
    (opReadClock s).1.clock = s.clock ∧ (opReadClock s).1.survey = s.survey ∧ (opReadClock s).1.bases = s.bases ∧
      (opReadClock s).1.loop = s.loop ∧ (opReadClock s).1.queue = s.queue ∧ (opReadClock s).1.log = s.log ∧
      (opReadClock s).1.mark = s.mark ∧ (opReadClock s).1.chain = s.chain ∧ (opReadClock s).1.cache = s.cache ∧
      (opReadClock s).1.occ = s.occ ∧ (opReadClock s).1.closurePos = s.closurePos ∧
      (opReadClock s).1.pendingPos = s.pendingPos ∧ (opReadClock s).1.store = s.store ∧ (opReadClock s).1.nv = s.nv ∧
      (opReadClock s).1.supply = s.supply ∧ (opReadClock s).1.startUp = s.startUp ∧ (opReadClock s).1.pins = s.pins ∧
      (opReadClock s).1.free = s.free ∧ (opReadClock s).1.pauses = s.pauses ∧ (opReadClock s).1.pending = s.pending := by
  simp [opReadClock]

@[simp] theorem opSetClock_frame (p : Port) (v : U32) :
    (opSetClock p v s).1.bases = s.bases ∧ (opSetClock p v s).1.loop = s.loop ∧ (opSetClock p v s).1.queue = s.queue ∧
      (opSetClock p v s).1.log = s.log ∧ (opSetClock p v s).1.mark = s.mark ∧ (opSetClock p v s).1.chain = s.chain ∧
      (opSetClock p v s).1.cache = s.cache ∧ (opSetClock p v s).1.occ = s.occ ∧
      (opSetClock p v s).1.closurePos = s.closurePos ∧ (opSetClock p v s).1.pendingPos = s.pendingPos ∧
      (opSetClock p v s).1.store = s.store ∧ (opSetClock p v s).1.nv = s.nv ∧ (opSetClock p v s).1.supply = s.supply ∧
      (opSetClock p v s).1.startUp = s.startUp ∧ (opSetClock p v s).1.pins = s.pins ∧
      (opSetClock p v s).1.free = s.free ∧ (opSetClock p v s).1.pauses = s.pauses ∧
      (opSetClock p v s).1.pending = s.pending := by
  unfold opSetClock
  repeat' split
  all_goals simp

@[simp] theorem opReadEvents_frame (p : Port) :
    (opReadEvents p s).1.clock = s.clock ∧ (opReadEvents p s).1.survey = s.survey ∧
      (opReadEvents p s).1.bases = s.bases ∧ (opReadEvents p s).1.loop = s.loop ∧
      (opReadEvents p s).1.queue = s.queue ∧ (opReadEvents p s).1.log = s.log ∧ (opReadEvents p s).1.mark = s.mark ∧
      (opReadEvents p s).1.chain = s.chain ∧ (opReadEvents p s).1.cache = s.cache ∧ (opReadEvents p s).1.occ = s.occ ∧
      (opReadEvents p s).1.closurePos = s.closurePos ∧ (opReadEvents p s).1.pendingPos = s.pendingPos ∧
      (opReadEvents p s).1.store = s.store ∧ (opReadEvents p s).1.nv = s.nv ∧ (opReadEvents p s).1.supply = s.supply ∧
      (opReadEvents p s).1.startUp = s.startUp ∧ (opReadEvents p s).1.pins = s.pins ∧
      (opReadEvents p s).1.free = s.free ∧ (opReadEvents p s).1.pauses = s.pauses ∧
      (opReadEvents p s).1.pending = s.pending := by
  simp [opReadEvents]

@[simp] theorem opSetMask_frame (p : Port) (w : U16) :
    (opSetMask p w s).1.clock = s.clock ∧ (opSetMask p w s).1.survey = s.survey ∧ (opSetMask p w s).1.bases = s.bases ∧
      (opSetMask p w s).1.loop = s.loop ∧ (opSetMask p w s).1.queue = s.queue ∧ (opSetMask p w s).1.log = s.log ∧
      (opSetMask p w s).1.mark = s.mark ∧ (opSetMask p w s).1.chain = s.chain ∧ (opSetMask p w s).1.cache = s.cache ∧
      (opSetMask p w s).1.occ = s.occ ∧ (opSetMask p w s).1.closurePos = s.closurePos ∧
      (opSetMask p w s).1.pendingPos = s.pendingPos ∧ (opSetMask p w s).1.store = s.store ∧
      (opSetMask p w s).1.nv = s.nv ∧ (opSetMask p w s).1.supply = s.supply ∧ (opSetMask p w s).1.startUp = s.startUp ∧
      (opSetMask p w s).1.pins = s.pins ∧ (opSetMask p w s).1.free = s.free ∧ (opSetMask p w s).1.pauses = s.pauses ∧
      (opSetMask p w s).1.pending = s.pending := by
  simp [opSetMask]

@[simp] theorem opReadMask_frame (p : Port) :
    (opReadMask p s).1.clock = s.clock ∧ (opReadMask p s).1.survey = s.survey ∧ (opReadMask p s).1.bases = s.bases ∧
      (opReadMask p s).1.loop = s.loop ∧ (opReadMask p s).1.queue = s.queue ∧ (opReadMask p s).1.log = s.log ∧
      (opReadMask p s).1.mark = s.mark ∧ (opReadMask p s).1.chain = s.chain ∧ (opReadMask p s).1.cache = s.cache ∧
      (opReadMask p s).1.occ = s.occ ∧ (opReadMask p s).1.closurePos = s.closurePos ∧
      (opReadMask p s).1.pendingPos = s.pendingPos ∧ (opReadMask p s).1.store = s.store ∧
      (opReadMask p s).1.nv = s.nv ∧ (opReadMask p s).1.supply = s.supply ∧ (opReadMask p s).1.startUp = s.startUp ∧
      (opReadMask p s).1.pins = s.pins ∧ (opReadMask p s).1.free = s.free ∧ (opReadMask p s).1.pauses = s.pauses ∧
      (opReadMask p s).1.pending = s.pending := by
  simp [opReadMask]

@[simp] theorem opReadItem_frame (b i : Byte) :
    (opReadItem b i s).1.clock = s.clock ∧ (opReadItem b i s).1.survey = s.survey ∧
      (opReadItem b i s).1.bases = s.bases ∧ (opReadItem b i s).1.loop = s.loop ∧
      (opReadItem b i s).1.queue = s.queue ∧ (opReadItem b i s).1.log = s.log ∧ (opReadItem b i s).1.mark = s.mark ∧
      (opReadItem b i s).1.chain = s.chain ∧ (opReadItem b i s).1.cache = s.cache ∧ (opReadItem b i s).1.occ = s.occ ∧
      (opReadItem b i s).1.closurePos = s.closurePos ∧ (opReadItem b i s).1.pendingPos = s.pendingPos ∧
      (opReadItem b i s).1.store = s.store ∧ (opReadItem b i s).1.nv = s.nv ∧ (opReadItem b i s).1.supply = s.supply ∧
      (opReadItem b i s).1.startUp = s.startUp ∧ (opReadItem b i s).1.pins = s.pins ∧
      (opReadItem b i s).1.free = s.free ∧ (opReadItem b i s).1.pauses = s.pauses ∧
      (opReadItem b i s).1.pending = s.pending := by
  unfold opReadItem
  repeat' split
  all_goals simp

@[simp] theorem opWriteItem_frame (p : Port) (w : ItemWrite) :
    (opWriteItem p w s).1.clock = s.clock ∧ (opWriteItem p w s).1.survey = s.survey ∧
      (opWriteItem p w s).1.bases = s.bases ∧ (opWriteItem p w s).1.loop = s.loop ∧
      (opWriteItem p w s).1.queue = s.queue ∧ (opWriteItem p w s).1.log = s.log ∧ (opWriteItem p w s).1.mark = s.mark ∧
      (opWriteItem p w s).1.chain = s.chain ∧ (opWriteItem p w s).1.cache = s.cache ∧
      (opWriteItem p w s).1.occ = s.occ ∧ (opWriteItem p w s).1.closurePos = s.closurePos ∧
      (opWriteItem p w s).1.pendingPos = s.pendingPos ∧ (opWriteItem p w s).1.nv = s.nv ∧
      (opWriteItem p w s).1.supply = s.supply ∧ (opWriteItem p w s).1.startUp = s.startUp ∧
      (opWriteItem p w s).1.pins = s.pins ∧ (opWriteItem p w s).1.free = s.free ∧
      (opWriteItem p w s).1.pauses = s.pauses ∧ (opWriteItem p w s).1.pending = s.pending := by
  unfold opWriteItem
  repeat' split
  all_goals simp

@[simp] theorem opCommit_frame :
    (opCommit s).1.clock = s.clock ∧ (opCommit s).1.bases = s.bases ∧ (opCommit s).1.loop = s.loop ∧
      (opCommit s).1.queue = s.queue ∧ (opCommit s).1.log = s.log ∧ (opCommit s).1.mark = s.mark ∧
      (opCommit s).1.chain = s.chain ∧ (opCommit s).1.cache = s.cache ∧ (opCommit s).1.occ = s.occ ∧
      (opCommit s).1.closurePos = s.closurePos ∧ (opCommit s).1.pendingPos = s.pendingPos ∧
      (opCommit s).1.supply = s.supply ∧ (opCommit s).1.startUp = s.startUp ∧ (opCommit s).1.pins = s.pins ∧
      (opCommit s).1.free = s.free ∧ (opCommit s).1.pauses = s.pauses ∧ (opCommit s).1.pending = s.pending := by
  unfold opCommit
  repeat' split
  all_goals simp

@[simp] theorem opDiscard_frame :
    (opDiscard s).1.clock = s.clock ∧ (opDiscard s).1.survey = s.survey ∧ (opDiscard s).1.bases = s.bases ∧
      (opDiscard s).1.loop = s.loop ∧ (opDiscard s).1.queue = s.queue ∧ (opDiscard s).1.log = s.log ∧
      (opDiscard s).1.mark = s.mark ∧ (opDiscard s).1.chain = s.chain ∧ (opDiscard s).1.cache = s.cache ∧
      (opDiscard s).1.occ = s.occ ∧ (opDiscard s).1.closurePos = s.closurePos ∧
      (opDiscard s).1.pendingPos = s.pendingPos ∧ (opDiscard s).1.nv = s.nv ∧ (opDiscard s).1.supply = s.supply ∧
      (opDiscard s).1.startUp = s.startUp ∧ (opDiscard s).1.pins = s.pins ∧ (opDiscard s).1.free = s.free ∧
      (opDiscard s).1.pauses = s.pauses ∧ (opDiscard s).1.pending = s.pending := by
  unfold opDiscard
  repeat' split
  all_goals simp

@[simp] theorem opReadDigest_frame :
    (opReadDigest s).1.clock = s.clock ∧ (opReadDigest s).1.survey = s.survey ∧ (opReadDigest s).1.bases = s.bases ∧
      (opReadDigest s).1.loop = s.loop ∧ (opReadDigest s).1.queue = s.queue ∧ (opReadDigest s).1.log = s.log ∧
      (opReadDigest s).1.mark = s.mark ∧ (opReadDigest s).1.chain = s.chain ∧ (opReadDigest s).1.cache = s.cache ∧
      (opReadDigest s).1.occ = s.occ ∧ (opReadDigest s).1.closurePos = s.closurePos ∧
      (opReadDigest s).1.pendingPos = s.pendingPos ∧ (opReadDigest s).1.store = s.store ∧
      (opReadDigest s).1.nv = s.nv ∧ (opReadDigest s).1.supply = s.supply ∧ (opReadDigest s).1.startUp = s.startUp ∧
      (opReadDigest s).1.pins = s.pins ∧ (opReadDigest s).1.free = s.free ∧ (opReadDigest s).1.pauses = s.pauses ∧
      (opReadDigest s).1.pending = s.pending := by
  simp [opReadDigest]

@[simp] theorem opOpenSurvey_frame (p : Port) (n : U16) (id : U32) (step : Byte) :
    (opOpenSurvey p n id step s).1.clock = s.clock ∧ (opOpenSurvey p n id step s).1.bases = s.bases ∧
      (opOpenSurvey p n id step s).1.queue = s.queue ∧ (opOpenSurvey p n id step s).1.log = s.log ∧
      (opOpenSurvey p n id step s).1.mark = s.mark ∧ (opOpenSurvey p n id step s).1.chain = s.chain ∧
      (opOpenSurvey p n id step s).1.cache = s.cache ∧ (opOpenSurvey p n id step s).1.occ = s.occ ∧
      (opOpenSurvey p n id step s).1.closurePos = s.closurePos ∧
      (opOpenSurvey p n id step s).1.pendingPos = s.pendingPos ∧ (opOpenSurvey p n id step s).1.store = s.store ∧
      (opOpenSurvey p n id step s).1.nv = s.nv ∧ (opOpenSurvey p n id step s).1.supply = s.supply ∧
      (opOpenSurvey p n id step s).1.startUp = s.startUp ∧ (opOpenSurvey p n id step s).1.pins = s.pins ∧
      (opOpenSurvey p n id step s).1.free = s.free ∧ (opOpenSurvey p n id step s).1.pauses = s.pauses ∧
      (opOpenSurvey p n id step s).1.pending = s.pending := by
  unfold opOpenSurvey
  repeat' split
  all_goals simp

@[simp] theorem opCloseSurvey_frame (p : Port) :
    (opCloseSurvey p s).1.clock = s.clock ∧ (opCloseSurvey p s).1.bases = s.bases ∧
      (opCloseSurvey p s).1.queue = s.queue ∧ (opCloseSurvey p s).1.mark = s.mark ∧
      (opCloseSurvey p s).1.chain = s.chain ∧ (opCloseSurvey p s).1.cache = s.cache ∧
      (opCloseSurvey p s).1.occ = s.occ ∧ (opCloseSurvey p s).1.closurePos = s.closurePos ∧
      (opCloseSurvey p s).1.pendingPos = s.pendingPos ∧ (opCloseSurvey p s).1.store = s.store ∧
      (opCloseSurvey p s).1.nv = s.nv ∧ (opCloseSurvey p s).1.supply = s.supply ∧
      (opCloseSurvey p s).1.startUp = s.startUp ∧ (opCloseSurvey p s).1.pins = s.pins ∧
      (opCloseSurvey p s).1.free = s.free ∧ (opCloseSurvey p s).1.pauses = s.pauses ∧
      (opCloseSurvey p s).1.pending = s.pending := by
  unfold opCloseSurvey
  repeat' split
  all_goals simp

@[simp] theorem opResume_frame :
    (opResume s).1.clock = s.clock ∧ (opResume s).1.bases = s.bases ∧ (opResume s).1.loop = s.loop ∧
      (opResume s).1.queue = s.queue ∧ (opResume s).1.log = s.log ∧ (opResume s).1.mark = s.mark ∧
      (opResume s).1.chain = s.chain ∧ (opResume s).1.cache = s.cache ∧ (opResume s).1.occ = s.occ ∧
      (opResume s).1.closurePos = s.closurePos ∧ (opResume s).1.pendingPos = s.pendingPos ∧
      (opResume s).1.store = s.store ∧ (opResume s).1.nv = s.nv ∧ (opResume s).1.supply = s.supply ∧
      (opResume s).1.startUp = s.startUp ∧ (opResume s).1.pins = s.pins ∧ (opResume s).1.free = s.free ∧
      (opResume s).1.pauses = s.pauses ∧ (opResume s).1.pending = s.pending := by
  unfold opResume
  repeat' split
  all_goals simp

@[simp] theorem opSetLine_frame (p : Port) (id : U32) (step : Byte) :
    (opSetLine p id step s).1.clock = s.clock ∧ (opSetLine p id step s).1.bases = s.bases ∧
      (opSetLine p id step s).1.loop = s.loop ∧ (opSetLine p id step s).1.queue = s.queue ∧
      (opSetLine p id step s).1.log = s.log ∧ (opSetLine p id step s).1.mark = s.mark ∧
      (opSetLine p id step s).1.chain = s.chain ∧ (opSetLine p id step s).1.cache = s.cache ∧
      (opSetLine p id step s).1.occ = s.occ ∧ (opSetLine p id step s).1.closurePos = s.closurePos ∧
      (opSetLine p id step s).1.pendingPos = s.pendingPos ∧ (opSetLine p id step s).1.store = s.store ∧
      (opSetLine p id step s).1.nv = s.nv ∧ (opSetLine p id step s).1.supply = s.supply ∧
      (opSetLine p id step s).1.startUp = s.startUp ∧ (opSetLine p id step s).1.pins = s.pins ∧
      (opSetLine p id step s).1.free = s.free ∧ (opSetLine p id step s).1.pauses = s.pauses ∧
      (opSetLine p id step s).1.pending = s.pending := by
  unfold opSetLine
  repeat' split
  all_goals simp

@[simp] theorem opSetPosition_frame (p : Port) (k : Byte) (lat lon : U32) :
    (opSetPosition p k lat lon s).1.clock = s.clock ∧ (opSetPosition p k lat lon s).1.survey = s.survey ∧
      (opSetPosition p k lat lon s).1.bases = s.bases ∧ (opSetPosition p k lat lon s).1.loop = s.loop ∧
      (opSetPosition p k lat lon s).1.queue = s.queue ∧ (opSetPosition p k lat lon s).1.log = s.log ∧
      (opSetPosition p k lat lon s).1.mark = s.mark ∧ (opSetPosition p k lat lon s).1.chain = s.chain ∧
      (opSetPosition p k lat lon s).1.cache = s.cache ∧ (opSetPosition p k lat lon s).1.occ = s.occ ∧
      (opSetPosition p k lat lon s).1.closurePos = s.closurePos ∧ (opSetPosition p k lat lon s).1.store = s.store ∧
      (opSetPosition p k lat lon s).1.nv = s.nv ∧ (opSetPosition p k lat lon s).1.supply = s.supply ∧
      (opSetPosition p k lat lon s).1.startUp = s.startUp ∧ (opSetPosition p k lat lon s).1.pins = s.pins ∧
      (opSetPosition p k lat lon s).1.free = s.free ∧ (opSetPosition p k lat lon s).1.pauses = s.pauses ∧
      (opSetPosition p k lat lon s).1.pending = s.pending := by
  unfold opSetPosition
  repeat' split
  all_goals simp

@[simp] theorem opOccupy_frame (p : Port) (k : Byte) (id lat lon : U32) :
    (opOccupy p k id lat lon s).1.clock = s.clock ∧ (opOccupy p k id lat lon s).1.bases = s.bases ∧
      (opOccupy p k id lat lon s).1.loop = s.loop ∧ (opOccupy p k id lat lon s).1.queue = s.queue ∧
      (opOccupy p k id lat lon s).1.mark = s.mark ∧ (opOccupy p k id lat lon s).1.chain = s.chain ∧
      (opOccupy p k id lat lon s).1.cache = s.cache ∧ (opOccupy p k id lat lon s).1.closurePos = s.closurePos ∧
      (opOccupy p k id lat lon s).1.pendingPos = s.pendingPos ∧ (opOccupy p k id lat lon s).1.store = s.store ∧
      (opOccupy p k id lat lon s).1.nv = s.nv ∧ (opOccupy p k id lat lon s).1.supply = s.supply ∧
      (opOccupy p k id lat lon s).1.startUp = s.startUp ∧ (opOccupy p k id lat lon s).1.pins = s.pins ∧
      (opOccupy p k id lat lon s).1.free = s.free ∧ (opOccupy p k id lat lon s).1.pauses = s.pauses ∧
      (opOccupy p k id lat lon s).1.pending = s.pending := by
  unfold opOccupy
  dsimp only
  repeat' split
  all_goals simp

@[simp] theorem opOccupyNext_frame (p : Port) :
    (opOccupyNext p s).1.clock = s.clock ∧ (opOccupyNext p s).1.bases = s.bases ∧ (opOccupyNext p s).1.loop = s.loop ∧
      (opOccupyNext p s).1.queue = s.queue ∧ (opOccupyNext p s).1.mark = s.mark ∧
      (opOccupyNext p s).1.chain = s.chain ∧ (opOccupyNext p s).1.cache = s.cache ∧
      (opOccupyNext p s).1.closurePos = s.closurePos ∧ (opOccupyNext p s).1.store = s.store ∧
      (opOccupyNext p s).1.nv = s.nv ∧ (opOccupyNext p s).1.supply = s.supply ∧
      (opOccupyNext p s).1.startUp = s.startUp ∧ (opOccupyNext p s).1.pins = s.pins ∧
      (opOccupyNext p s).1.free = s.free ∧ (opOccupyNext p s).1.pauses = s.pauses ∧
      (opOccupyNext p s).1.pending = s.pending := by
  unfold opOccupyNext
  repeat' split
  all_goals simp

@[simp] theorem opEnd_frame (p : Port) :
    (opEnd p s).1.clock = s.clock ∧ (opEnd p s).1.survey = s.survey ∧ (opEnd p s).1.bases = s.bases ∧
      (opEnd p s).1.mark = s.mark ∧ (opEnd p s).1.chain = s.chain ∧ (opEnd p s).1.cache = s.cache ∧
      (opEnd p s).1.pendingPos = s.pendingPos ∧ (opEnd p s).1.store = s.store ∧ (opEnd p s).1.nv = s.nv ∧
      (opEnd p s).1.supply = s.supply ∧ (opEnd p s).1.startUp = s.startUp ∧ (opEnd p s).1.pins = s.pins ∧
      (opEnd p s).1.free = s.free ∧ (opEnd p s).1.pauses = s.pauses ∧ (opEnd p s).1.pending = s.pending := by
  unfold opEnd
  repeat' split
  all_goals simp

@[simp] theorem opAbandon_frame (p : Port) :
    (opAbandon p s).1.clock = s.clock ∧ (opAbandon p s).1.survey = s.survey ∧ (opAbandon p s).1.bases = s.bases ∧
      (opAbandon p s).1.loop = s.loop ∧ (opAbandon p s).1.queue = s.queue ∧ (opAbandon p s).1.mark = s.mark ∧
      (opAbandon p s).1.chain = s.chain ∧ (opAbandon p s).1.cache = s.cache ∧
      (opAbandon p s).1.closurePos = s.closurePos ∧ (opAbandon p s).1.pendingPos = s.pendingPos ∧
      (opAbandon p s).1.store = s.store ∧ (opAbandon p s).1.nv = s.nv ∧ (opAbandon p s).1.supply = s.supply ∧
      (opAbandon p s).1.startUp = s.startUp ∧ (opAbandon p s).1.pins = s.pins ∧ (opAbandon p s).1.free = s.free ∧
      (opAbandon p s).1.pauses = s.pauses ∧ (opAbandon p s).1.pending = s.pending := by
  unfold opAbandon
  repeat' split
  all_goals simp

@[simp] theorem opReadLogFrom_frame (p : Port) (q : U32) :
    (opReadLogFrom p q s).1.clock = s.clock ∧ (opReadLogFrom p q s).1.survey = s.survey ∧
      (opReadLogFrom p q s).1.bases = s.bases ∧ (opReadLogFrom p q s).1.loop = s.loop ∧
      (opReadLogFrom p q s).1.queue = s.queue ∧ (opReadLogFrom p q s).1.log = s.log ∧
      (opReadLogFrom p q s).1.mark = s.mark ∧ (opReadLogFrom p q s).1.chain = s.chain ∧
      (opReadLogFrom p q s).1.cache = s.cache ∧ (opReadLogFrom p q s).1.occ = s.occ ∧
      (opReadLogFrom p q s).1.closurePos = s.closurePos ∧ (opReadLogFrom p q s).1.pendingPos = s.pendingPos ∧
      (opReadLogFrom p q s).1.store = s.store ∧ (opReadLogFrom p q s).1.nv = s.nv ∧
      (opReadLogFrom p q s).1.supply = s.supply ∧ (opReadLogFrom p q s).1.startUp = s.startUp ∧
      (opReadLogFrom p q s).1.pins = s.pins ∧ (opReadLogFrom p q s).1.free = s.free ∧
      (opReadLogFrom p q s).1.pauses = s.pauses ∧ (opReadLogFrom p q s).1.pending = s.pending := by
  simp [opReadLogFrom, State.readFrom]

@[simp] theorem opReadLogNext_frame (p : Port) :
    (opReadLogNext p s).1.clock = s.clock ∧ (opReadLogNext p s).1.survey = s.survey ∧
      (opReadLogNext p s).1.bases = s.bases ∧ (opReadLogNext p s).1.loop = s.loop ∧
      (opReadLogNext p s).1.queue = s.queue ∧ (opReadLogNext p s).1.log = s.log ∧ (opReadLogNext p s).1.mark = s.mark ∧
      (opReadLogNext p s).1.chain = s.chain ∧ (opReadLogNext p s).1.cache = s.cache ∧
      (opReadLogNext p s).1.occ = s.occ ∧ (opReadLogNext p s).1.closurePos = s.closurePos ∧
      (opReadLogNext p s).1.pendingPos = s.pendingPos ∧ (opReadLogNext p s).1.store = s.store ∧
      (opReadLogNext p s).1.nv = s.nv ∧ (opReadLogNext p s).1.supply = s.supply ∧
      (opReadLogNext p s).1.startUp = s.startUp ∧ (opReadLogNext p s).1.pins = s.pins ∧
      (opReadLogNext p s).1.free = s.free ∧ (opReadLogNext p s).1.pauses = s.pauses ∧
      (opReadLogNext p s).1.pending = s.pending := by
  unfold opReadLogNext
  repeat' split
  all_goals simp [State.readFrom]

@[simp] theorem opPurge_frame (p : Port) (q : U32) :
    (opPurge p q s).1.clock = s.clock ∧ (opPurge p q s).1.survey = s.survey ∧ (opPurge p q s).1.bases = s.bases ∧
      (opPurge p q s).1.loop = s.loop ∧ (opPurge p q s).1.queue = s.queue ∧ (opPurge p q s).1.mark = s.mark ∧
      (opPurge p q s).1.chain = s.chain ∧ (opPurge p q s).1.cache = s.cache ∧ (opPurge p q s).1.occ = s.occ ∧
      (opPurge p q s).1.closurePos = s.closurePos ∧ (opPurge p q s).1.pendingPos = s.pendingPos ∧
      (opPurge p q s).1.store = s.store ∧ (opPurge p q s).1.nv = s.nv ∧ (opPurge p q s).1.supply = s.supply ∧
      (opPurge p q s).1.startUp = s.startUp ∧ (opPurge p q s).1.pins = s.pins ∧ (opPurge p q s).1.free = s.free ∧
      (opPurge p q s).1.pauses = s.pauses ∧ (opPurge p q s).1.pending = s.pending := by
  unfold opPurge
  repeat' split
  all_goals simp

@[simp] theorem opLoadBase_frame (p : Port) (id v : U32) :
    (opLoadBase p id v s).1.clock = s.clock ∧ (opLoadBase p id v s).1.survey = s.survey ∧
      (opLoadBase p id v s).1.loop = s.loop ∧ (opLoadBase p id v s).1.queue = s.queue ∧
      (opLoadBase p id v s).1.log = s.log ∧ (opLoadBase p id v s).1.mark = s.mark ∧
      (opLoadBase p id v s).1.chain = s.chain ∧ (opLoadBase p id v s).1.cache = s.cache ∧
      (opLoadBase p id v s).1.occ = s.occ ∧ (opLoadBase p id v s).1.closurePos = s.closurePos ∧
      (opLoadBase p id v s).1.pendingPos = s.pendingPos ∧ (opLoadBase p id v s).1.store = s.store ∧
      (opLoadBase p id v s).1.nv = s.nv ∧ (opLoadBase p id v s).1.supply = s.supply ∧
      (opLoadBase p id v s).1.startUp = s.startUp ∧ (opLoadBase p id v s).1.pins = s.pins ∧
      (opLoadBase p id v s).1.free = s.free ∧ (opLoadBase p id v s).1.pauses = s.pauses ∧
      (opLoadBase p id v s).1.pending = s.pending := by
  unfold opLoadBase
  repeat' split
  all_goals simp

@[simp] theorem opDropBase_frame (p : Port) (id : U32) :
    (opDropBase p id s).1.clock = s.clock ∧ (opDropBase p id s).1.survey = s.survey ∧
      (opDropBase p id s).1.loop = s.loop ∧ (opDropBase p id s).1.queue = s.queue ∧ (opDropBase p id s).1.log = s.log ∧
      (opDropBase p id s).1.mark = s.mark ∧ (opDropBase p id s).1.chain = s.chain ∧
      (opDropBase p id s).1.cache = s.cache ∧ (opDropBase p id s).1.occ = s.occ ∧
      (opDropBase p id s).1.closurePos = s.closurePos ∧ (opDropBase p id s).1.pendingPos = s.pendingPos ∧
      (opDropBase p id s).1.store = s.store ∧ (opDropBase p id s).1.nv = s.nv ∧
      (opDropBase p id s).1.supply = s.supply ∧ (opDropBase p id s).1.startUp = s.startUp ∧
      (opDropBase p id s).1.pins = s.pins ∧ (opDropBase p id s).1.free = s.free ∧
      (opDropBase p id s).1.pauses = s.pauses ∧ (opDropBase p id s).1.pending = s.pending := by
  unfold opDropBase
  repeat' split
  all_goals simp

@[simp] theorem opReadBases_frame (p : Port) (id : U32) :
    (opReadBases p id s).1.clock = s.clock ∧ (opReadBases p id s).1.survey = s.survey ∧
      (opReadBases p id s).1.bases = s.bases ∧ (opReadBases p id s).1.loop = s.loop ∧
      (opReadBases p id s).1.queue = s.queue ∧ (opReadBases p id s).1.log = s.log ∧
      (opReadBases p id s).1.mark = s.mark ∧ (opReadBases p id s).1.chain = s.chain ∧
      (opReadBases p id s).1.cache = s.cache ∧ (opReadBases p id s).1.occ = s.occ ∧
      (opReadBases p id s).1.closurePos = s.closurePos ∧ (opReadBases p id s).1.pendingPos = s.pendingPos ∧
      (opReadBases p id s).1.store = s.store ∧ (opReadBases p id s).1.nv = s.nv ∧
      (opReadBases p id s).1.supply = s.supply ∧ (opReadBases p id s).1.startUp = s.startUp ∧
      (opReadBases p id s).1.pins = s.pins ∧ (opReadBases p id s).1.free = s.free ∧
      (opReadBases p id s).1.pauses = s.pauses ∧ (opReadBases p id s).1.pending = s.pending := by
  simp [opReadBases]

@[simp] theorem opSoftReset_frame :
    (opSoftReset s).1.clock = s.clock ∧ (opSoftReset s).1.bases = s.bases ∧ (opSoftReset s).1.loop = s.loop ∧
      (opSoftReset s).1.queue = s.queue ∧ (opSoftReset s).1.mark = s.mark ∧ (opSoftReset s).1.chain = s.chain ∧
      (opSoftReset s).1.cache = s.cache ∧ (opSoftReset s).1.occ = s.occ ∧ (opSoftReset s).1.closurePos = s.closurePos ∧
      (opSoftReset s).1.pendingPos = s.pendingPos ∧ (opSoftReset s).1.nv = s.nv ∧ (opSoftReset s).1.pins = s.pins ∧
      (opSoftReset s).1.free = s.free ∧ (opSoftReset s).1.pauses = s.pauses ∧ (opSoftReset s).1.pending = s.pending := by
  simp [opSoftReset, State.beginRestart_kept]

end

/-! ## The requests that can change a field -/

section
variable {s : State} {i : Instr} {p : Port} {r : Req} (hi : i.request = some (p, r))
include hi

theorem operationOf_clock (_ : r ≠ .setClock) :
    (operationOf i s).1.clock = s.clock := by
  cases i <;> simp only [Instr.request, Option.some.injEq, Prod.mk.injEq, reduceCtorEq] at hi <;>
    obtain ⟨rfl, rfl⟩ := hi <;> first | contradiction | simp [operationOf]

theorem operationOf_survey (_ : r ≠ .setClock) (_ : r ≠ .commit) (_ : r ≠ .openSurvey) (_ : r ≠ .closeSurvey)
    (_ : r ≠ .resume) (_ : r ≠ .setLine) (_ : r ≠ .occupy) (_ : r ≠ .occupyNext) (_ : r ≠ .softReset) :
    (operationOf i s).1.survey = s.survey := by
  cases i <;> simp only [Instr.request, Option.some.injEq, Prod.mk.injEq, reduceCtorEq] at hi <;>
    obtain ⟨rfl, rfl⟩ := hi <;> first | contradiction | simp [operationOf]

theorem operationOf_bases (_ : r ≠ .loadBase) (_ : r ≠ .dropBase) :
    (operationOf i s).1.bases = s.bases := by
  cases i <;> simp only [Instr.request, Option.some.injEq, Prod.mk.injEq, reduceCtorEq] at hi <;>
    obtain ⟨rfl, rfl⟩ := hi <;> first | contradiction | simp [operationOf]

theorem operationOf_loop (_ : r ≠ .openSurvey) (_ : r ≠ .closeSurvey) (_ : r ≠ .endOccupation) :
    (operationOf i s).1.loop = s.loop := by
  cases i <;> simp only [Instr.request, Option.some.injEq, Prod.mk.injEq, reduceCtorEq] at hi <;>
    obtain ⟨rfl, rfl⟩ := hi <;> first | contradiction | simp [operationOf]

theorem operationOf_queue (_ : r ≠ .endOccupation) :
    (operationOf i s).1.queue = s.queue := by
  cases i <;> simp only [Instr.request, Option.some.injEq, Prod.mk.injEq, reduceCtorEq] at hi <;>
    obtain ⟨rfl, rfl⟩ := hi <;> first | contradiction | simp [operationOf]

theorem operationOf_log (_ : r ≠ .sample) (_ : r ≠ .occupy) (_ : r ≠ .occupyNext) (_ : r ≠ .endOccupation)
    (_ : r ≠ .abandon) (_ : r ≠ .purge) (_ : r ≠ .closeSurvey) (_ : r ≠ .softReset) :
    (operationOf i s).1.log = s.log := by
  cases i <;> simp only [Instr.request, Option.some.injEq, Prod.mk.injEq, reduceCtorEq] at hi <;>
    obtain ⟨rfl, rfl⟩ := hi <;> first | contradiction | simp [operationOf]

theorem operationOf_mark :
    (operationOf i s).1.mark = s.mark := by
  cases i <;> simp only [Instr.request, Option.some.injEq, Prod.mk.injEq, reduceCtorEq] at hi <;>
    obtain ⟨rfl, rfl⟩ := hi <;> first | contradiction | simp [operationOf]

theorem operationOf_chain (_ : r ≠ .sample) :
    (operationOf i s).1.chain = s.chain := by
  cases i <;> simp only [Instr.request, Option.some.injEq, Prod.mk.injEq, reduceCtorEq] at hi <;>
    obtain ⟨rfl, rfl⟩ := hi <;> first | contradiction | simp [operationOf]

theorem operationOf_cache (_ : r ≠ .sample) :
    (operationOf i s).1.cache = s.cache := by
  cases i <;> simp only [Instr.request, Option.some.injEq, Prod.mk.injEq, reduceCtorEq] at hi <;>
    obtain ⟨rfl, rfl⟩ := hi <;> first | contradiction | simp [operationOf]

theorem operationOf_occ (_ : r ≠ .sample) (_ : r ≠ .occupy) (_ : r ≠ .occupyNext) (_ : r ≠ .endOccupation)
    (_ : r ≠ .abandon) :
    (operationOf i s).1.occ = s.occ := by
  cases i <;> simp only [Instr.request, Option.some.injEq, Prod.mk.injEq, reduceCtorEq] at hi <;>
    obtain ⟨rfl, rfl⟩ := hi <;> first | contradiction | simp [operationOf]

theorem operationOf_closurePos (_ : r ≠ .endOccupation) :
    (operationOf i s).1.closurePos = s.closurePos := by
  cases i <;> simp only [Instr.request, Option.some.injEq, Prod.mk.injEq, reduceCtorEq] at hi <;>
    obtain ⟨rfl, rfl⟩ := hi <;> first | contradiction | simp [operationOf]

theorem operationOf_pendingPos (_ : r ≠ .setPosition) (_ : r ≠ .occupyNext) :
    (operationOf i s).1.pendingPos = s.pendingPos := by
  cases i <;> simp only [Instr.request, Option.some.injEq, Prod.mk.injEq, reduceCtorEq] at hi <;>
    obtain ⟨rfl, rfl⟩ := hi <;> first | contradiction | simp [operationOf]

theorem operationOf_store (_ : r ≠ .writeItem) (_ : r ≠ .commit) (_ : r ≠ .discard) (_ : r ≠ .softReset) :
    (operationOf i s).1.store = s.store := by
  cases i <;> simp only [Instr.request, Option.some.injEq, Prod.mk.injEq, reduceCtorEq] at hi <;>
    obtain ⟨rfl, rfl⟩ := hi <;> first | contradiction | simp [operationOf]

theorem operationOf_nv (_ : r ≠ .commit) :
    (operationOf i s).1.nv = s.nv := by
  cases i <;> simp only [Instr.request, Option.some.injEq, Prod.mk.injEq, reduceCtorEq] at hi <;>
    obtain ⟨rfl, rfl⟩ := hi <;> first | contradiction | simp [operationOf]

theorem operationOf_supply (_ : r ≠ .softReset) :
    (operationOf i s).1.supply = s.supply := by
  cases i <;> simp only [Instr.request, Option.some.injEq, Prod.mk.injEq, reduceCtorEq] at hi <;>
    obtain ⟨rfl, rfl⟩ := hi <;> first | contradiction | simp [operationOf]

theorem operationOf_startUp (_ : r ≠ .softReset) :
    (operationOf i s).1.startUp = s.startUp := by
  cases i <;> simp only [Instr.request, Option.some.injEq, Prod.mk.injEq, reduceCtorEq] at hi <;>
    obtain ⟨rfl, rfl⟩ := hi <;> first | contradiction | simp [operationOf]

theorem operationOf_pins :
    (operationOf i s).1.pins = s.pins := by
  cases i <;> simp only [Instr.request, Option.some.injEq, Prod.mk.injEq, reduceCtorEq] at hi <;>
    obtain ⟨rfl, rfl⟩ := hi <;> first | contradiction | simp [operationOf]

theorem operationOf_free :
    (operationOf i s).1.free = s.free := by
  cases i <;> simp only [Instr.request, Option.some.injEq, Prod.mk.injEq, reduceCtorEq] at hi <;>
    obtain ⟨rfl, rfl⟩ := hi <;> first | contradiction | simp [operationOf]

theorem operationOf_pauses :
    (operationOf i s).1.pauses = s.pauses := by
  cases i <;> simp only [Instr.request, Option.some.injEq, Prod.mk.injEq, reduceCtorEq] at hi <;>
    obtain ⟨rfl, rfl⟩ := hi <;> first | contradiction | simp [operationOf]

theorem operationOf_pending :
    (operationOf i s).1.pending = s.pending := by
  cases i <;> simp only [Instr.request, Option.some.injEq, Prod.mk.injEq, reduceCtorEq] at hi <;>
    obtain ⟨rfl, rfl⟩ := hi <;> first | contradiction | simp [operationOf]

end

end Sys2Proof.Machine
end

