-- ==== Sys2Proof/Laws/Guards.lean ====
section
/-! SUPPORT. The induction of Laws/Exec.lean for the two kinds of invariant: those that hold while the main domain holds its own values,
and those that hold while the retention mark stands. -/

namespace Sys2Proof.Machine

/-- What every operation keeps holds while the main domain holds its own values, where stage 2 of a restart brings it about. -/
theorem Keeps.whileLive (P : State → Prop)
  (ports : ∀ {s t}, s.PortOnly t → P s → P t)
  (request : ∀ {i p r s}, i.request = some (p, r) → r ≠ .softReset → s.receiving = true → s.startUp = none → P s → P (operationOf i s).1)
  (boundary : ∀ {s : State}, P s → P s.boundary)
  (tick : ∀ {s : State} {c}, P s → P (s.setClock c))
  (closure : ∀ {s : State}, P s → P s.closureStep)
  (block : ∀ {s : State}, P s → P s.blockWritten)
  (digest : ∀ {s : State}, P s → P ((s.setStore { s.store with digest := digestOf s.nv.constants.image, computing := false }).raise .digestReady))
  (supply : ∀ {s : State} {x}, P s → P (s.setSupply x))
  (image : ∀ {s : State} {x}, P s → P (s.setNv x))
  (main : ∀ {s : State} {b}, s.startUp = some .mainDomain → P ((s.resetMain b).setStartUp (some .constants)))
  (later : ∀ {s : State} {b}, s.startUp ≠ some .mainDomain → P s → P (s.takeStage b)) :
  Keeps (fun s => s.mainLive = true → P s) := by
  have live : ∀ {s t : State}, t.supply = s.supply → t.startUp = s.startUp → (P s → P t) → (s.mainLive = true → P s) → t.mainLive = true → P t := by
    intro s t h1 h2 h3 h hm
    exact h3 (h (by simpa [State.mainLive, State.powered, h1, h2] using hm))
  refine { ports := ?_, request := ?_, boundary := ?_, tick := ?_, closure := ?_, block := ?_, digest := ?_, restart := ?_, delay := ?_, fall := ?_, vbak := ?_, hold := ?_, unhold := ?_, image := ?_, stage := ?_ }
  · rintro s t ht h hm
    refine ports ht (h ?_)
    obtain ⟨_,_,_,_,_,_,_,_,rfl⟩ := ht; exact hm
  · intro i p r s hi hsr hr hs h
    exact live (operationOf_supply hi hsr) (operationOf_startUp hi hsr) (request hi hsr hr hs) h
  · intro s _ h; exact live (by simp) (by simp) boundary h
  · intro s _ _ h; exact live (by simp) (by simp) tick h
  · intro s _ _ h; exact live (by simp) (by simp) closure h
  · intro s _ h; exact live (by simp) (by simp) block h
  · intro s _ _ h; exact live (by simp) (by simp) digest h
  · intro s x c hx hx2 hc h hm
    simp [State.beginRestart, State.mainLive] at hm
  · intro s hv _ h hm
    simp [State.mainLive, State.powered] at hm
  · intro s b _ h hm
    simp [State.vddFalls, State.mainLive, State.powered] at hm
  · intro s h hm
    unfold State.vbakFails at *
    dsimp only at *
    split at hm <;> rename_i hc <;> simp only [hc, if_true] 
    · exact supply (h hm)
    · simp [State.mainLive, State.powered] at hm; simp_all
  · intro s h hm; exact supply (h hm)
  · intro s hv h hm; exact supply (h hm)
  · intro s b _ h hm; exact image (h hm)
  · intro s b hr h hm
    by_cases e : s.startUp = some .mainDomain
    · have : s.takeStage b = (s.resetMain b).setStartUp (some .constants) := by simp [State.takeStage, e]
      rw [this]; exact main e
    · refine later e (h ?_)
      simp [State.mainLive, State.powered] at hm ⊢
      exact ⟨hm.1, e⟩

/-- What every operation keeps holds while the retention mark stands, where stage 1 of a POWER_LOST restart brings it about. -/
theorem Keeps.whileMarked (P : State → Prop)
  (ports : ∀ {s t}, s.PortOnly t → P s → P t)
  (request : ∀ {i p r s}, i.request = some (p, r) → r ≠ .softReset → s.receiving = true → s.startUp = none → P s → P (operationOf i s).1)
  (boundary : ∀ {s : State}, P s → P s.boundary)
  (tick : ∀ {s : State} {c}, P s → P (s.setClock c))
  (closure : ∀ {s : State}, s.mainLive = true → s.startUp = none → P s → P s.closureStep)
  (block : ∀ {s : State}, P s → P s.blockWritten)
  (digest : ∀ {s : State} , P s → P ((s.setStore { s.store with digest := digestOf s.nv.constants.image, computing := false }).raise .digestReady))
  (lost : ∀ {s : State} {x}, P ((s.setSupply x).beginRestart .powerLost))
  (kept : ∀ {s : State} {x c}, c ≠ .powerLost → P s → P ((s.setSupply x).beginRestart c))
  (fall : ∀ {s : State} {x n g}, P s → P (((({s with free := n} : State).mainFrom g).setSupply x).setStartUp none))
  (supply : ∀ {s : State} {x}, P s → P (s.setSupply x))
  (image : ∀ {s : State} {x}, P s → P (s.setNv x))
  (stage : ∀ {s : State} {b}, P s → P (s.takeStage b)) :
  Keeps (fun s => s.mark = true → P s) := by
  refine { ports := ?_, request := ?_, boundary := ?_, tick := ?_, closure := ?_, block := ?_, digest := ?_, restart := ?_, delay := ?_, fall := ?_, vbak := ?_, hold := ?_, unhold := ?_, image := ?_, stage := ?_ }
  · rintro s t ht h hm
    refine ports ht (h ?_)
    obtain ⟨_,_,_,_,_,_,_,_,rfl⟩ := ht; exact hm
  · intro i p r s hi hsr hr hs h hm
    rw [operationOf_mark hi] at hm
    exact request hi hsr hr hs (h hm)
  · intro s _ h hm; exact boundary (h (by simpa using hm))
  · intro s _ _ h hm; exact tick (h hm)
  · intro s h1 h2 h hm; exact closure h1 h2 (h (by simpa using hm))
  · intro s _ h hm; exact block (h (by simpa using hm))
  · intro s _ _ h hm; exact digest (h hm)
  · intro s x c hx hx2 hc h hm
    by_cases e : c = .powerLost
    · subst e; exact lost
    · refine kept e (h ?_)
      have := (State.beginRestart_kept (s.setSupply x) e).2.2.2.2.1
      rw [this] at hm; exact hm
  · intro s hv _ h hm; exact supply (h hm)
  · intro s b _ h hm
    unfold State.vddFalls at *
    dsimp only at *
    cases b
    · simp [State.retainedFrom] at hm
    · exact fall (h hm)
  · intro s h hm
    unfold State.vbakFails at *
    dsimp only at *
    split at hm <;> rename_i hc <;> simp only [hc, if_true] 
    · exact supply (h hm)
    · simp [State.retainedFrom] at hm
  · intro s h hm; exact supply (h hm)
  · intro s hv h hm; exact supply (h hm)
  · intro s b _ h hm; exact image (h hm)
  · intro s b hr h hm; exact stage (h (by simpa using hm))

end Sys2Proof.Machine
end

