-- ==== Sys2Proof/Laws/Log.lean ====
section
/-! SUPPORT. The station log (R87, R88): sequence numbers name records, the active record, whole changes, what PURGE leaves. -/

namespace Sys2Proof.Machine

/-- No two records of a log in its form share a sequence number (R88). -/
theorem Log.wf.nodup {l : Log} (h : l.wf) : (l.records.map (·.seq)).Nodup := by
  rw [h.2.2.2]
  exact List.nodup_range'

/-- A sequence number names one record (R88). -/
theorem Log.wf.unique {l : Log} (h : l.wf) {a b : Record} (ha : a ∈ l.records) (hb : b ∈ l.records) (e : a.seq = b.seq) :
    a = b :=
  List.inj_on_of_nodup_map h.nodup ha hb e

/-- The active record is in the log, and the occupation state names it (R60). -/
theorem State.activeRecord_spec {s : State} {r : Record} (h : s.activeRecord = some r) : r ∈ s.log.records ∧ s.occ.state.record = some r.seq := by
  unfold State.activeRecord at h
  split at h
  · rename_i q hq
    simp only [Log.find] at h
    have := List.find?_some h
    simp at this
    exact ⟨List.mem_of_find?_eq_some h, by rw [hq, this]⟩
  · simp at h

/-- A property of every record survives a change of one record that has it (R90). -/
theorem Log.modify_forall {l : Log} {q : Nat} {f : Record → Record} {P : Record → Prop} (h : ∀ r ∈ l.records, P r)
    (hf : ∀ r ∈ l.records, r.seq = q → P (f r)) : ∀ r ∈ (l.modify q f).records, P r := by
  intro r hr
  simp only [Log.modify, List.mem_map] at hr
  obtain ⟨x, hx, rfl⟩ := hr
  split
  · exact hf x hx (by assumption)
  · exact h x hx

/-- PURGE leaves the log's newest part, and removes no ACTIVE record (R105). -/
theorem State.purgeScan_suffix (s : State) (q : Nat) (l : List Record) :
    ∃ removed, l = removed ++ (s.purgeScan q l).1 ∧ ∀ r ∈ removed, r.state ≠ .active := by
  induction l with
  | nil => exact ⟨[], by simp [State.purgeScan]⟩
  | cons x xs ih =>
    unfold State.purgeScan
    split
    · exact ⟨[], by simp⟩
    · rename_i hn
      obtain ⟨removed, e, hp⟩ := ih
      refine ⟨x :: removed, by rw [List.cons_append, ← e], ?_⟩
      rw [List.forall_mem_cons]
      refine ⟨fun ha => ?_, hp⟩
      unfold State.purgeStop at hn
      simp only [ha, if_true] at hn
      split at hn <;> simp at hn

end Sys2Proof.Machine
end

