-- ==== Sys2Proof/Laws/Store.lean ====
section
/-! SUPPORT. The constants store (Chapter 8): marks per block, images against the working copy, items written, the commit. -/

namespace Sys2Proof.Machine

/-- One block's value replaced leaves the others. -/
theorem PerBlock.get_set (m : PerBlock Bool) (b c : Block) (x : Bool) :
    (m.set b x).get c = if c = b then x else m.get c := by
  cases b <;> cases c <;> rfl

/-- A block equal to its valid image agrees with it (R152). -/
theorem Images.holds_agree {i : Images} {c : Constants} {b} (h : i.holds c b = true) : i.constants.agree c b := by
  cases b <;> simp [Images.holds] at h <;> simp [Constants.agree, Images.constants, h]

/-- A block written from a working copy in range agrees with its image (R152). -/
theorem Images.write_agree {i : Images} {c : Constants} (hr : c.inRange) (b) : (i.write c b).constants.agree c b := by
  obtain ⟨h1, h2, h3, h4, h5⟩ := hr
  cases b <;> simp [Images.write, Constants.agree, Images.constants, Images.validCal, Images.validSensor, Images.validTide, Images.validSettle, Images.validLoop, Option.filter_some, *]

/-- A block written leaves the other images (R152). -/
theorem Images.write_agree_ne {i : Images} {c d : Constants} {b b'} (hn : b' ≠ b) : (i.write c b).constants.agree d b' ↔ i.constants.agree d b' := by
  cases b <;> cases b' <;> first | contradiction | rfl
/-- An image spoiled leaves the other images (R150). -/
theorem Images.spoil_agree_ne {i : Images} {d : Constants} {b b'} (hn : b' ≠ b) : (i.spoil b).constants.agree d b' ↔ i.constants.agree d b' := by
  cases b <;> cases b' <;> first | contradiction | rfl
/-- What the images hold is in range (R150, R156). -/
theorem Images.constants_inRange (i : Images) : i.constants.inRange := by
  have f : Constants.factory.inRange := by refine ⟨by decide, by decide, by decide, by decide, by decide⟩
  obtain ⟨f1, f2, f3, f4, f5⟩ := f
  refine ⟨?_, ?_, ?_, ?_, ?_⟩
  · simp only [Images.constants, Images.validCal]; cases i.cal with
    | none => exact f1
    | some v => rw [Option.filter_some]; split <;> simp_all; exact f1
  · simp only [Images.constants, Images.validSensor]; cases i.sensor with
    | none => exact f2
    | some v => rw [Option.filter_some]; split <;> simp_all; exact f2
  · simp only [Images.constants, Images.validTide]; cases i.tide with
    | none => exact f3
    | some v => rw [Option.filter_some]; split <;> simp_all; exact f3
  · simp only [Images.constants, Images.validSettle]; cases i.settle with
    | none => exact f4
    | some v => rw [Option.filter_some]; split <;> simp_all; exact f4
  · simp only [Images.constants, Images.validLoop]; cases i.loop with
    | none => exact f5
    | some v => rw [Option.filter_some]; split <;> simp_all; exact f5

/-- An item in range written keeps every field in range (R148). -/
theorem Constants.write_inRange {c : Constants} (hr : c.inRange) (i : Nat) (v : ItemValue) (hv : v.inRange = true) : (c.write i v).inRange := by
  obtain ⟨h1, h2, h3, h4, h5⟩ := hr
  cases v
  case calHeader n tol =>
    refine ⟨?_, h2, h3, h4, h5⟩
    simp only [CalBlock.inRange, Bool.and_eq_true, Constants.write] at *
    exact ⟨⟨hv, h1.1.2⟩, h1.2⟩
  case calInterval v =>
    refine ⟨?_, h2, h3, h4, h5⟩
    simp only [CalBlock.inRange, Bool.and_eq_true, Constants.write, List.length_set, List.all_eq_true] at *
    refine ⟨h1.1, fun x hx => ?_⟩
    rcases List.mem_or_eq_of_mem_set hx with hx | rfl
    · exact h1.2 x hx
    · exact hv
  case sensor v => exact ⟨h1, hv, h3, h4, h5⟩
  case tideHeader m e dlt =>
    refine ⟨h1, h2, ?_, h4, h5⟩
    simp only [TideBlock.inRange, Bool.and_eq_true, Constants.write] at *
    exact ⟨⟨hv, h3.1.2⟩, h3.2⟩
  case constituent v =>
    refine ⟨h1, h2, ?_, h4, h5⟩
    simp only [TideBlock.inRange, Bool.and_eq_true, Constants.write, List.length_set, List.all_eq_true] at *
    refine ⟨h3.1, fun x hx => ?_⟩
    rcases List.mem_or_eq_of_mem_set hx with hx | rfl
    · exact h3.2 x hx
    · exact hv
  case settle v => exact ⟨h1, h2, h3, hv, h5⟩
  case loop v => exact ⟨h1, h2, h3, h4, hv⟩

/-- A block that differs from its valid image and still agrees with what the images hold has no valid image (R150). -/
theorem Images.spoil_agree {i : Images} {c : Constants} {b} (ha : i.constants.agree c b) (h : i.holds c b = false) : (i.spoil b).constants.agree c b := by
  cases b
  · change i.validCal.getD _ = c.cal at ha; change (i.validCal == some c.cal) = false at h
    cases hh : i.validCal <;> simp [hh] at ha h
    · exact ha
    · exact absurd ha h
  · change i.validSensor.getD _ = c.sensor at ha; change (i.validSensor == some c.sensor) = false at h
    cases hh : i.validSensor <;> simp [hh] at ha h
    · exact ha
    · exact absurd ha h
  · change i.validTide.getD _ = c.tide at ha; change (i.validTide == some c.tide) = false at h
    cases hh : i.validTide <;> simp [hh] at ha h
    · exact ha
    · exact absurd ha h
  · change i.validSettle.getD _ = c.settle at ha; change (i.validSettle == some c.settle) = false at h
    cases hh : i.validSettle <;> simp [hh] at ha h
    · exact ha
    · exact absurd ha h
  · change i.validLoop.getD _ = c.loop at ha; change (i.validLoop == some c.loop) = false at h
    cases hh : i.validLoop <;> simp [hh] at ha h
    · exact ha
    · exact absurd ha h

/-- A commit passes the equal blocks it comes to, each losing its dirty mark, and goes on from the block behind them (R152). With no
block behind them it is done (`commitFrom_nil`); a block that differs is the one to be written (`commitFrom_cons`). -/
theorem State.commitFrom_append {s : State} (w k : Bool) (same others : List Block)
    (h : ∀ b ∈ same, s.nv.holds s.store.work b = true) :
    s.commitFrom w k (same ++ others) =
      (s.setStore { s.store with dirty := same.foldl (fun m b => m.set b false) s.store.dirty }).commitFrom w k others := by
  induction same generalizing s with
  | nil => rfl
  | cons b rest ih =>
    rw [List.cons_append, State.commitFrom, if_pos (h b (List.mem_cons_self ..))]
    exact ih (s := s.setStore (s.store.unchanged b)) fun x hx => h x (List.mem_cons_of_mem _ hx)

/-- A commit with no block left is done (R153). -/
theorem State.commitFrom_nil (s : State) (w k : Bool) : s.commitFrom w k [] = s.commitDone w := rfl

/-- A commit that comes to a block that differs has that block to write: its write has begun, or waits (R152, log 21). -/
theorem State.commitFrom_cons {s : State} (w k : Bool) {b : Block} (rest : List Block)
    (h : s.nv.holds s.store.work b = false) :
    s.commitFrom w k (b :: rest) =
      (s.setNv (if k then s.nv else s.nv.spoil b)).setStore { s.store with commit := some (b :: rest) } := by
  rw [State.commitFrom, if_neg (by simp [h])]
  cases k <;> rfl

/-- The commit never changes the working copy (R152). -/
theorem State.commitFrom_work {s : State} (w k bs) : (s.commitFrom w k bs).store.work = s.store.work := by
  induction bs generalizing s with
  | nil => unfold State.commitFrom State.commitDone; simp
  | cons b r ih => unfold State.commitFrom; split
                   · rw [ih]; rfl
                   · rfl

end Sys2Proof.Machine
end

