-- ==== Sys2Proof/Tests/Slice0.lean ====
section
/-! SUPPORT. The model's own tests: ill-formed commands refused, single steps with results from the manual's worked examples, and for
every statement that has hypotheses a state that meets them. -/

namespace Sys2Proof.Tests

open Sys2Proof Sys2Proof.Machine

/-! ## Small states -/

/-- What a test looks at in the next state. -/
def saw {α : Type} (f : State → α) : Host.Outcome State Fault Refusal → Option α
  | .next t => some (f t)
  | .fault _ => none
  | .refused _ => none

/-- READY, the clock at 1,000, nothing DEFAULTED, the digest VALID, and a transaction of 83 bytes open on the meter port. -/
def atReady : State :=
  { State.reset with
    clock := { value := 1000, isSet := true, divider := 0 }
    survey := { State.reset.survey with state := .ready }
    store := { State.reset.store with defaulted := .all false, computing := false }
    meter := { State.reset.meter with txn := some { discard := false, clocked := 83 } } }

/-- Survey 15 open, with base 9001 in the table (section 6.9.1). -/
def atSurvey : State :=
  { atReady with
    survey := { state := .survey, number := 15, nextId := some 101, step := 1, lastCause := .powerLost }
    bases := [{ id := 9001, value := 12500000 }] }

/-- A record as OCCUPY makes it. -/
def begun (seq : Nat) (kind : Kind) (station loopNo : Nat) : Record :=
  { seq := seq, survey := 15, kind := kind, station := station, pos := { lat := 45000000, lon := 15000000 },
    source := .given, digest := 0, loopNo := loopNo, origin := .survey, start := 900, state := .active, stop := none,
    cause := .none, result := none, quality := .created false, red := .none, role := .none }

/-- A station record with a result, PROVISIONAL in an open loop (section 6.9.2). -/
def measured (seq station loopNo : Nat) (mean : Int) (time : Nat) : Record :=
  { begun seq .station station loopNo with
    state := .ended, stop := some time, cause := .surveyEnd
    result := some
      { n := 60, rejected := 0, mean := mean, time := time, scatter := 3, gaps := 0, losses := 0 }
    red := reductionOf .provisional mean 12631943 }

/-- An occupation active in SETTLING on a new record. -/
def atSettling (r : Record) : State :=
  { atSurvey with
    log := { records := [r], counter := r.seq + 1 }
    occ := { Occupation.restarted with state := .settling r.seq, ref := some 25131950, run := 3 } }

/-- An occupation active in SETTLED with the accumulator given. -/
def atSettled (r : Record) (a : Sums) : State :=
  { atSurvey with
    log := { records := [r], counter := r.seq + 1 }
    occ := { Occupation.restarted with state := .settled r.seq, run := 16, sums := a } }

/-- An accumulator of n samples that all equal the first. -/
def sumsAt (n : Nat) (v : Int) (t : Nat) : Sums := { Sums.clear with n := n, first := some { v := v, t := t } }

/-- The opening tie of the worked loop (section 6.9.2). -/
def tieA : Tie := { seq := 401, time := 1000, off := 12631943 }
/-- The closing tie of the worked loop (section 6.9.3). -/
def tieB : Tie := { seq := 404, time := 8200, off := 12632483 }

/-- The worked loop with its closure in flight at p = 402 (section 6.9.3). -/
def atClosure : State :=
  { atSurvey with
    log := { records := [measured 402 101 1 25402110 2800, measured 403 102 1 24987655 4600], counter := 405 }
    loop := { counter := 2, opening := some tieB, prediction := some { off := 540, dt := 7200 } }
    queue := [{ loop := 1, a := tieA, b := tieB }]
    closurePos := some 402 }

/-- VDD absent, VBAK holding. -/
def atPowerDown : State := { atSurvey with supply := { State.reset.supply with vdd := false } }

/-- A restart in progress, before its stage 2. -/
def atStage (g : Stage) : State := { atSurvey with startUp := some g }

/-! ## Ill-formed commands -/

theorem test_interval_80_illFormed : (Instr.writeItem .meter (.calInterval 80 0 1)).wellFormed = false := by decide
theorem test_interval_79_wellFormed : (Instr.writeItem .meter (.calInterval 79 0 1)).wellFormed = true := by decide
theorem test_constituent_16_illFormed : (Instr.writeItem .survey (.constituent 16 0 0 0 0)).wellFormed = false := by decide
theorem test_absent_existing_illFormed : (Instr.writeItem .survey (.absent 4 0)).wellFormed = false := by decide
theorem test_absentBlock_existing_illFormed : (Instr.writeItem .survey (.absentBlock 5)).wellFormed = false := by decide
theorem test_good_frame_is_no_reject : (Instr.meterFrameReject [0x02, 0x00, 0xFE]).wellFormed = false := by decide
theorem test_empty_transaction_illFormed : (Instr.csnFall 0).wellFormed = false := by decide
theorem test_survey_frame_needs_sync : (Instr.surveyFrameReject [0x01, 0x02]).wellFormed = false := by decide
theorem test_overrun_frame_needs_sync : (Instr.surveyFrameOverrun [0x01, 0x02]).wellFormed = false := by decide

/-! ## Frames (section 9.1.1) and the table's words -/

theorem test_readLive_frame_bytes : encodeFrame (.readLive .meter) = some [0x02, 0x00, 0xFE] := by decide
theorem test_readLive_frame_read : judgeMeter [0x02, 0x00, 0xFE] = .good (.readLive .meter) := by decide
theorem test_setClock_frame_read :
    judgeSurvey [0x05, 0x05, 0x00, 0x52, 0xE0, 0x30, 0x94] = .good (.setClock .survey 820007424) := by decide
theorem test_openSurvey_payload_read :
    decodePayload .survey .openSurvey [0x0F, 0x00, 0x65, 0x00, 0x00, 0x00, 0xFF] =
      some (.openSurvey .survey 15 101 0xFF) := by decide
theorem test_occupy_payload_read :
    decodePayload .survey .occupy [0x01, 0x29, 0x23, 0, 0, 0x40, 0xA5, 0xAE, 0x02, 0xC0, 0xE1, 0xE4, 0x00] =
      some (.occupy .survey 1 9001 45000000 15000000) := by decide
theorem test_sample_payload_read :
    decodePayload .meter .sample [42, 0x52, 0xE0, 0x76, 0x01, 125, 0, 0xD0, 0xFF, 37, 0, 0] =
      some (.sample .meter 42 24567890 125 0xFFD0 37 0) := by decide
theorem test_settle_item_read :
    decodePayload .survey .writeItem [4, 0, 40, 0, 16, 6, 3, 0, 60, 0] =
      some (.writeItem .survey (.settle 40 16 6 3 60)) := by decide
theorem test_item_of_wrong_length_refused : decodePayload .survey .writeItem [4, 0, 40, 0, 16, 6, 3, 0, 60] = none := by decide
/-- R161: a block that does not exist is decided by the WRITE ITEM rule, whatever the length; an existing one needs its item. -/
theorem test_writeItem_of_one_byte :
    judgeSurvey [0x02, 0x0A, 0x06, 0xEE] = .good (.writeItem .survey (.absentBlock 6)) ∧
      judgeSurvey [0x02, 0x0A, 0x05, 0xEF] = .reject .frame ∧ judgeSurvey [0x01, 0x0A, 0xF5] = .reject .frame := by decide
theorem test_ok_frame : meterFrame (okAnswer .empty) = [0x01, 0x00, 0xFF] := by decide
theorem test_table_words_spell_none : decodeTableWord 8 0x02 = none := rfl

/-! ## Single steps: answers -/

/-- The answer the operation of a request just taken will give on a port. -/
def answer (p : Port) (t : State) : Option Response :=
  match p, t.meter.slot, t.uart.out with
  | .meter, .taking r, _ => some r
  | .survey, _, some o => some o.reply
  | _, _, _ => none

/-- What a request answers on its port. -/
def replies (i : Instr) (p : Port) (s : State) : Option Response := (saw (answer p) (exec i s)).join

theorem test_readClock_unset : replies (.readClock .survey) .survey { State.reset with survey := atReady.survey } =
    some (okAnswer (.clock 0 false)) := by decide
theorem test_status_counts : (replies (.status .survey) .survey atClosure).map (·.payload.bytes.length) = some 28 := by decide
theorem test_readLive_length : (replies (.readLive .meter) .meter atReady).map (fun r => (meterFrame r).length) = some 59 := by decide
theorem test_setClock_three_ahead : replies (.setClock .survey 1003) .survey atSurvey = some (refusal .clockStep) := by decide
theorem test_setClock_two_ahead :
    saw (fun t => (t.clock, t.events .meter)) (exec (.setClock .survey 1002) atSurvey) =
      some ({ value := 1002, isSet := true, divider := 0 }, 0x0801) := by decide
theorem test_readEvents_empties :
    saw (fun t => (t.meter.events, t.uart.events, t.meter.slot)) (exec (.readEvents .meter) atReady) =
      some (0, 1, .taking (okAnswer (.word 1))) := by decide
theorem test_setMask_drops_reserved :
    saw (fun t => (t.uart.mask, t.meter.mask)) (exec (.setMask .survey 0xE002) atReady) = some (0x0002, 0x1FFF) := by decide
theorem test_readMask : replies (.readMask .meter) .meter atReady = some (okAnswer (.word 0x1FFF)) := by decide
theorem test_readItem_loop : replies (.readItem .survey 5 0) .survey atReady =
    some (okAnswer (.item 5 0 false false (.loop { limit := 2000, ll := 21600 }))) := by decide
theorem test_writeItem_marks_dirty :
    saw (fun t => (t.store.work.settle.q, t.store.dirty.settle)) (exec (.writeItem .survey (.settle 40 16 6 3 60)) atReady) =
      some (40, true) := by decide
theorem test_writeItem_wrong_port : replies (.writeItem .meter (.settle 40 16 6 3 60)) .meter atReady = some (refusal .denied) := by
  decide
theorem test_commit_with_nothing : replies (.commit .survey) .survey atReady = some (okAnswer (.blocks 0)) := by decide
theorem test_commit_with_survey_open : replies (.commit .survey) .survey atSurvey = some (refusal .state) := by decide
theorem test_discard_blank_images : saw (fun t => t.store.defaulted.cal) (exec (.discard .meter) atReady) = some true := by decide
theorem test_readDigest : replies (.readDigest .survey) .survey atReady = some (okAnswer (.digest 0 false)) := by decide
theorem test_openSurvey_opens :
    saw (fun t => t.survey) (exec (.openSurvey .survey 15 101 0xFF) atReady) =
      some { state := .survey, number := 15, nextId := some 101, step := -1, lastCause := .powerLost } := by decide
theorem test_openSurvey_step_0 : replies (.openSurvey .survey 15 101 0) .survey atReady = some (refusal .range) := by decide
theorem test_closeSurvey_with_queue : replies (.closeSurvey .survey) .survey atClosure = some (refusal .busy) := by decide
theorem test_closeSurvey_uncloses :
    saw (fun t => t.log.records.map (·.red.status)) (exec (.closeSurvey .survey)
      { atClosure with queue := [], closurePos := none, loop := { counter := 1, opening := some tieA, prediction := none } }) =
      some [.unclosed, .unclosed] := by decide
theorem test_resume_in_survey : replies (.resume .meter) .meter atSurvey = some (refusal .state) := by decide
theorem test_setLine : saw (fun t => (t.survey.nextId, t.survey.step)) (exec (.setLine .survey 999999 99) atSurvey) =
    some (some 999999, 99) := by decide
theorem test_setPosition_beyond_pole : replies (.setPosition .survey 1 90000001 0) .survey atReady = some (refusal .range) := by decide
theorem test_occupy_unknown_base : replies (.occupy .survey 1 9002 0 0) .survey atSurvey = some (refusal .noBase) := by decide
theorem test_occupyNext_carries :
    saw (fun t => (t.log.records.getLast?.map fun r => (r.seq, r.station, r.loopNo, r.source), t.survey.nextId))
      (exec (.occupyNext .meter) { atClosure with survey := { atSurvey.survey with nextId := some 103 } }) =
      some (some (405, 103, 2, .carried), some 104) := by decide
theorem test_abandon_from_meter :
    saw (fun t => (t.log.records.map fun r => (r.state, r.cause, r.stop), t.occ.state))
      (exec (.abandon .meter) (atSettling (begun 401 .station 101 0))) =
      some ([(.abandoned, .meterAbandon, some 1000)], .none) := by decide
theorem test_readLogFrom_meter_returns_one :
    saw (fun t => t.meter.cursor) (exec (.readLogFrom .meter 300) atClosure) = some (some 403) := by decide
theorem test_readLogNext_skips :
    (replies (.readLogNext .survey) .survey { atClosure with uart := { atClosure.uart with cursor := some 304 } }).map (·.payload) =
      some (.records atClosure.log.records true true) := by decide
theorem test_loadBase_full_table :
    replies (.loadBase .survey 9002 0) .survey { atSurvey with bases := List.replicate 24 { id := 9001, value := 0 } } =
      some (refusal .tableFull) := by decide
theorem test_dropBase_absent : replies (.dropBase .survey 9002) .survey atSurvey = some (refusal .noBase) := by decide
theorem test_readBases : replies (.readBases .meter 9001) .meter atSurvey =
    some (okAnswer (.bases 1 [({ id := 9001, value := 12500000 }, false)] true)) := by decide
theorem test_softReset_has_no_answer :
    saw (fun t => (t.uart.out, t.survey.lastCause, t.startUp)) (exec (.softReset .survey) atSurvey) =
      some (none, .soft, some .mainDomain) := by decide

/-! ## Single steps: the worked station and loop -/

/-- The conditions of section 2.10.1: sensor and calibration, the tide of Chapter 3, the chain before sample 42. -/
def atSample (clock expected : Nat) (tf : Int) (lost : Nat) : State :=
  let s := atSettled (begun 401 .station 101 0) (sumsAt 1 25131943 3599)
  { s with
    clock := { value := clock, isSet := true, divider := 0 }
    store := { s.store with
      work := { Constants.factory with
        cal := { CalBlock.factory with
          intervals := (CalBlock.factory.intervals.set 24 { g := 24551230, f := 1098588210 }).set 25
            { g := 25574380, f := 1098588210 } }
        sensor := { ox := 5, oy := -8, kt := 19327, lt := 300, tc := 29491, shift := 3 }
        tide := { m := 1, delta := 19005, enabled := true, parts := [{ species := 2, f := 393436200, p := 0, a := 1080 }] } } }
    chain := { tf := tf, primed := true, live := none, stale := false, lost := lost }
    meter := { s.meter with expected := some expected } }

/-- The figures of section 2.10.4. -/
def figures (t : State) : Option (List Int) :=
  t.chain.live.map fun l => [l.cal, l.tiltc, l.tempc, l.tidec, l.v, t.chain.tf, t.chain.lost]

theorem test_sample_42 : saw figures (exec (.sample .meter 42 24567890 125 0xFFD0 37 0) (atSample 3600 41 8000 3)) =
    some (some [25132261, 18, -14, -322, 25131943, 8184, 3]) := by decide
theorem test_sample_45 :
    saw figures (exec (.sample .meter 45 25000000 370 0xFFF8 37 0) (atSample 3601 42 8184 3)) =
      some (some [25574380, 153, -15, -322, 25574196, 8345, 5]) := by decide
theorem test_settles_on_the_fourth_quiet_sample :
    let s := { atSettling (begun 212 .station 101 0) with
      store := { atReady.store with
        work := { Constants.factory with settle := { q := 50, a := 4, e := 2, gapLimit := 3, minCount := 6 } } } }
    let t := s.settlingSample 212 { (default : Live) with v := 25131943 }
    (t.occ.state, t.occ.sums.n, t.events .survey) = (.settled 212, 0, 3) := by decide
theorem test_scatter_of_the_worked_station : ({ sumsAt 6 0 0 with sumD := 6, sumD2 := 58 } : Sums).scatter = 3 := by decide
theorem test_tide_15W :
    (tideTerm { m := 1, delta := 19005, enabled := true, parts := [{ species := 2, f := 393436200, p := 0, a := 1080 }] } none
      (some { lat := 45000000, lon := -15000000 }) true 3600).tidec = -626 := by decide
theorem test_factors_64N : let e := formEntry { lat := 64000000, lon := 0 }; (e.l2, e.l1, e.l0) = (6304, 25831, -23311) := by decide
theorem test_end_401_opens_loop_1 :
    saw (fun t => (t.log.records.map (·.red.figures), t.loop))
      (exec (.endOccupation .survey) (atSettled (begun 401 .base 9001 0) (sumsAt 60 25131943 1000))) =
      some ([some { drift := 12631943, reduced := 12500000 }], { counter := 1, opening := some tieA, prediction := none }) := by
  decide
theorem test_end_405_is_predicted :
    saw (fun t => t.log.records.map fun r => (r.red.status, r.red.figures, r.red.predicted))
      (exec (.endOccupation .meter) { atSettled (begun 405 .station 103 2) (sumsAt 60 25210400 9400) with loop := atClosure.loop }) =
      some [(.provisional, some { drift := 12632573, reduced := 12577827 }, true)] := by decide
theorem test_closure_step_at_402 :
    saw (fun t => (t.log.records.map (·.red.figures), t.closurePos)) (exec .closureStep atClosure) =
      some ([some { drift := 12632078, reduced := 12770032 }, some { drift := 12631943, reduced := 12355712 }], some 403) := by decide
theorem test_closure_completes :
    saw (fun t => (t.queue, t.closurePos, t.events .meter)) (exec .closureStep { atClosure with closurePos := some 404 }) =
      some ([], none, 0x0081) := by decide
theorem test_purge_stops_at_the_queued_loop :
    replies (.purge .survey 404) .survey { atClosure with
      log := { atClosure.log with records := { begun 401 .base 9001 0 with state := .ended } :: atClosure.log.records } } =
      some (okAnswer (.purged 1 402 .loop)) := by decide

/-! ## Single steps: events -/

theorem test_boundary_to_1025_is_a_gap :
    saw (fun t => (t.occ.state, t.occ.gap, t.occ.counts.gaps, t.chain.stale, t.events .meter)) (exec .secondBoundary
      { atSettling (begun 212 .station 101 0) with
        occ := { (atSettling (begun 212 .station 101 0)).occ with gap := 2 } }) = some (.settling 212, 3, 1, true, 9) := by decide
theorem test_gapExpiry_needs_its_boundary :
    saw (fun t => t.clock.value) (exec .gapExpiry (atSettling (begun 212 .station 101 0))) = some 1000 := by decide
theorem test_stale_at_the_third_boundary :
    saw (fun t => (t.chain.stale, t.clock.value)) (exec .liveReadingStale { atReady with
      chain := { atReady.chain with stale := false }, occ := { atReady.occ with staleness := 2 } }) = some (true, 1001) := by decide
theorem test_readLive_short_clocking :
    saw (fun t => (t.pins.miso, t.meter.slot)) (exec (.csnFall 3) { atReady with
      meter := { atReady.meter with txn := none, slot := .holding (okAnswer .empty) } }) = some ([0x01, 0x00, 0xFF], .idle) := by decide
theorem test_meterFrameReject_unknown :
    saw (fun t => t.meter.slot) (exec (.meterFrameReject [0x1E, 0x00, 0xE2]) atReady) = some (.holding (refusal .unknown)) := by
  decide
theorem test_meterFrameDiscard_keeps_slot :
    saw (fun t => (t.meter.slot, t.meter.txn)) (exec .meterFrameDiscard { atReady with
      meter := { atReady.meter with slot := .taking (okAnswer .empty), txn := some { discard := true, clocked := 3 } } }) =
      some (.taking (okAnswer .empty), none) := by decide
theorem test_surveyFrameReject_bad_sum :
    saw (fun t => t.uart.out) (exec (.surveyFrameReject [0xA5, 0x01, 0x02, 0x00]) atReady) =
      some (some { code := 0x02, reply := refusal .frame, sending := true }) := by decide
/-- R159: in RECEIVE a request's bytes join the frame in progress, whose length byte is here the request's own sync byte. -/
theorem test_request_row_joins_the_frame :
    saw (fun t => (t.uart.rx, t.uart.buf, t.uart.out.isSome)) (exec (.readLive .survey) { atReady with
      uart := { atReady.uart with rx := .receive, timer := true } }) = some (.receive, [0xA5, 0x01, 0x02, 0xFD], false) := by decide
theorem test_request_row_ends_the_dropped_frame :
    saw (fun t => (t.uart.rx, t.uart.buf, t.uart.out.isSome)) (exec (.readLive .survey) { atReady with
      uart := { atReady.uart with rx := .discard, buf := [0x02, 0x0A], timer := true } }) = some (.hunt, [], false) := by decide
theorem test_writeItem_of_one_byte_is_out_of_range :
    replies (.writeItem .survey (.absentBlock 6)) .survey atReady = some (refusal .range) := by decide
theorem test_surveyFrameOverrun_counts :
    saw (fun t => (t.uart.overruns, t.uart.rx)) (exec (.surveyFrameOverrun [0xA5, 0x01, 0x02, 0xFD]) { atReady with
      uart := { atReady.uart with out := some { code := 2, reply := okAnswer .empty, sending := true } } }) =
      some (1, .hunt) := by decide
theorem test_timeout_before_the_type_byte :
    saw (fun t => t.uart.out) (exec .interByteTimeout { atReady with
      uart := { atReady.uart with rx := .receive, buf := [0x05], timer := true } }) =
      some (some { code := 0, reply := refusal .frame, sending := true }) := by decide
theorem test_response_sent :
    saw (fun t => (t.pins.txd, t.uart.out)) (exec .responseSent { atReady with
      uart := { atReady.uart with out := some { code := 0x0B, reply := okAnswer (.blocks 0), sending := true } } }) =
      some ([0xA5, 0x03, 0x0B, 0x01, 0x00, 0xF1], none) := by decide
theorem test_operationAnswer :
    saw (fun t => t.meter.slot) (exec (.operationAnswer .meter) { atReady with
      meter := { atReady.meter with slot := .taking (okAnswer .empty) } }) = some (.holding (okAnswer .empty)) := by decide
theorem test_blockWrite_ends_the_commit :
    saw (fun t => (t.store.commit, t.store.computing, t.events .survey)) (exec .blockWriteComplete { atReady with
      store := { atReady.store with commit := some [.loop] } }) = some (none, true, 0x0101) := by decide
/-- Section 8.8: between two block writes the next image stands, and once its write has begun the image is torn (R156). -/
theorem test_blockWrite_between_two_writes :
    let s := fun pauses => { atReady with
      store := { atReady.store with commit := some [.settle, .loop] }
      nv := { atReady.nv with loop := some { limit := 2001, ll := 21600 } }
      pauses := pauses }
    saw (fun t => (t.store.commit, t.nv.loop.isSome)) (exec .blockWriteComplete (s true)) = some (some [.loop], true) ∧
      saw (fun t => (t.store.commit, t.nv.loop.isSome)) (exec .blockWriteComplete (s false)) = some (some [.loop], false) := by
  decide
/-- The register, polynomial and bit order of section 8.6 are those of the common CRC-32, whose published check value this is. -/
theorem test_digest_of_the_check_string :
    digestOf [0x31, 0x32, 0x33, 0x34, 0x35, 0x36, 0x37, 0x38, 0x39] = 0xCBF43926 := by decide +kernel
theorem test_vddRise_without_the_mark :
    saw (fun t => (t.survey.lastCause, t.log.counter, t.startUp)) (exec .vddRise { atPowerDown with mark := false }) =
      some (.powerLost, 1, some .mainDomain) := by decide
theorem test_vddFall_keeps_the_retained_domain :
    saw (fun t => (t.bases, t.mark, t.supply.vdd)) (exec (.vddFall true) atSurvey) = some (atSurvey.bases, true, false) := by decide
theorem test_vbakFail_destroys_the_mark : saw (fun t => t.mark) (exec .vbakFail atPowerDown) = some false := by decide
theorem test_resetnAssert_drops_attention :
    saw (fun t => (atReady.attention .meter, t.attention .meter)) (exec .resetnAssert atReady) = some (true, false) := by decide
theorem test_resetnRelease_restarts :
    saw (fun t => (t.survey.lastCause, t.log.records.map (·.cause))) (exec .resetnRelease
      { atSettling (begun 212 .station 101 0) with supply := { atReady.supply with resetLow := true } }) =
      some (.resetLine, [.reset]) := by decide
theorem test_nvImageLoss : saw (fun t => t.nv.loop) (exec (.nvImageLoss .loop) { atPowerDown with
    nv := { atPowerDown.nv with loop := some .factory } }) = some none := by decide
theorem test_stage_4_holds_a_survey :
    saw (fun t => t.survey.state) (exec (.startUpStage false) { atStage .surveyState with
      survey := { atSurvey.survey with lastCause := .soft } }) = some .held := by decide

/-! ## Witnesses: the hypotheses of each statement are met, each clause's by a state of its own -/

/-- A part whose start-up is in progress, its ports open. -/
def atBusy : State := atStage .finish

/-- A part with constants no image holds: SETTLE edited, LOOP written with its present values (section 8.8.1). -/
def atDirty : State :=
  { atReady with
    store := { atReady.store with
      work := { Constants.factory with settle := { SettleBlock.factory with q := 40 } }
      dirty := { PerBlock.all false with settle := true, loop := true } }
    nv := { cal := some .factory, sensor := some .factory, tide := some .factory, settle := some .factory,
            loop := some .factory } }

/-- RESETn held low while VDD is present. -/
def atHeld (due : Bool) : State :=
  { atSurvey with supply := { vdd := true, vbak := true, resetLow := true, restartDue := due } }

theorem witness_idleStep :
    (atReady.pending = [] ∧ (State.reset.clock.isSet && (State.reset.supply.vdd || State.reset.supply.vbak)) = false) ∧
    (atReady.clock.isSet && (atReady.supply.vdd || atReady.supply.vbak)) = true ∧
    ({ atReady.clock with divider := 32766 } : Clock).divider + 1 < 32768 ∧
    32768 ≤ ({ atReady.clock with divider := 32767 } : Clock).divider + 1 := by decide

theorem witness_requestsNotTaken :
    ((atPowerDown.supply.vdd = false ∨ atPowerDown.supply.resetLow = true) ∧ (Instr.status .meter).request.isSome = true) ∧
    (((atHeld false).supply.vdd = false ∨ (atHeld false).supply.resetLow = true) ∧ (Instr.csnFall 1).isFrame = true) ∧
    (atReady.supply.vdd = true ∧ atReady.supply.resetLow = false) ∧
    ((Instr.status .meter).request = some (.meter, .status) ∧ ({ discard := true, clocked := 3 } : Txn).discard = true ∧
      ({ discard := false, clocked := 2 } : Txn).clocked < (encodePayload (.status .meter)).length + 3 ∧
      State.reset.supply.vdd = true ∧ State.reset.supply.resetLow = false ∧ State.reset.meter.txn = none) ∧
    ((Instr.status .survey).request = some (.survey, .status) ∧
      (encodeFrame (.status .survey)).isSome = true ∧ ({ atReady.uart with rx := .discard } : SurveyPort).rx ≠ .hunt ∧
      ({ atReady.uart with rx := .receive } : SurveyPort).rx ≠ .hunt ∧ atReady.uart.rx = .hunt ∧
      ({ atReady.uart with out := some { code := 2, reply := okAnswer .empty, sending := true } } : SurveyPort).out ≠ none) := by
  decide

theorem witness_startUpBusy :
    ((Instr.setMask .survey 0).request = some (.survey, .setMask) ∧
      atBusy.portOpen .survey (encodePayload (.setMask .survey 0)).length = true ∧ atBusy.startUp ≠ none ∧ Req.setMask ≠ .status) ∧
    (Instr.status .meter).request = some (.meter, .status) ∧
      atBusy.portOpen .meter (encodePayload (.status .meter)).length = true := by decide

theorem witness_wrongPort :
    ((Instr.sample .survey 0 0 0 0 0 0).request = some (.survey, .sample) ∧
      atReady.portReady .survey (encodePayload (.sample .survey 0 0 0 0 0 0)).length = true) ∧
    (Instr.occupy .meter 0 1 0 0).request = some (.meter, .occupy) ∧
      atReady.portReady .meter (encodePayload (.occupy .meter 0 1 0 0)).length = true ∧
      (Port.meter, Req.occupy) ∈ [(Port.survey, Req.sample), (.meter, .setClock), (.meter, .openSurvey), (.meter, .closeSurvey),
        (.meter, .setLine), (.meter, .setPosition), (.meter, .occupy), (.meter, .purge), (.meter, .loadBase),
        (.meter, .dropBase)] := by decide

/-- An unset clock, the ports ready. -/
def atUnset : State := { atReady with clock := .lost, survey := State.reset.survey }

theorem witness_readClock :
    (atReady.portReady .meter 0 = true ∧ atReady.portReady .survey 0 = true) ∧
    (atUnset.portReady .survey 0 = true ∧ atUnset.clockInv ∧ atUnset.mark = true ∧ atUnset.clock.isSet = false) ∧
    (atBusy.portOpen .survey 0 = true ∧ atBusy.startUp ≠ none) ∧
    atReady.portReady .meter 0 = true ∧ atReady.supply.restartDue = false ∧ 0 < 1 :=
  ⟨by decide, ⟨by decide, fun _ => by decide, by decide, by decide⟩, by decide, by decide⟩

theorem witness_plainReads : atReady.portReady .meter 0 = true ∧ atReady.portReady .survey 0 = true := by decide

theorem witness_status :
    (atBusy.portOpen .meter 0 = true ∧ State.reset.log.wf) ∧ atClosure.portOpen .survey 0 = true ∧
      (Log.wf { atClosure.log with counter := 404 }) :=
  ⟨⟨by decide, by unfold Log.wf; decide⟩, by decide, by unfold Log.wf; decide⟩

theorem witness_readItem :
    (atBusy.portOpen .meter 2 = true ∧ atBusy.startUp ≠ none) ∧ atReady.portReady .survey 2 = true ∧
    (((79 : Byte).toNat < 80) ∧ (atReady.store.work.cal.intervals[79]?).isSome = true) ∧
    (((15 : Byte).toNat < 16) ∧ (atReady.store.work.tide.parts[15]?).isSome = true) ∧
    (itemLength 1 80).isNone = true ∧ (itemLength 3 16).isNone = true ∧ (itemLength 6 0).isNone = true := by decide

theorem witness_readBases : atSurvey.portReady .meter 4 = true ∧ atSurvey.portReady .survey 4 = true := by decide

theorem witness_events :
    (atReady.supply.vdd = true ∧ atReady.supply.resetLow = false ∧ atReady.startUp ≠ some .mainDomain) ∧
    ({ atReady with survey := State.reset.survey } : State).survey.state = .unset ∧ atReady.clock.isSet = true ∧
      (∀ b, atReady.store.defaulted.get b = false) ∧ ¬atReady.survey.state = .unset :=
  ⟨by decide, by decide, by decide, fun b => by cases b <;> rfl, by decide⟩

theorem witness_eventRequests :
    atReady.portReady .meter 0 = true ∧ atReady.portReady .survey 0 = true ∧ atReady.portReady .meter 2 = true ∧
      atReady.portReady .survey 2 = true := by decide

theorem witness_setClock :
    (atSurvey.portReady .survey 4 = true ∧ (atSurvey.survey.state = .survey ∨ atSurvey.survey.state = .held) ∧
      2 < (((1003 : U32).toNat : Int) - atSurvey.clock.value).natAbs ∧
      (((1002 : U32).toNat : Int) - atSurvey.clock.value).natAbs ≤ 2) ∧
    (atUnset.portReady .survey 4 = true ∧ atUnset.survey.state = .unset ∧ ∀ b, atUnset.store.defaulted.get b = false) ∧
    atReady.portReady .survey 4 = true ∧ ¬(atReady.survey.state = .survey ∨ atReady.survey.state = .held) ∧
      ¬atReady.survey.state = .unset :=
  ⟨by decide, ⟨by decide, by decide, fun b => by cases b <;> rfl⟩, by decide⟩

/-- SETTLING with the gap counter one below the limit. -/
def atGap : State :=
  { atSettling (begun 212 .station 101 0) with occ := { (atSettling (begun 212 .station 101 0)).occ with gap := 2, staleness := 2 } }

theorem witness_secondBoundary :
    (atUnset.clock.isSet && (atUnset.supply.vdd || atUnset.supply.vbak)) = false ∧
    ((atPowerDown.clock.isSet && (atPowerDown.supply.vdd || atPowerDown.supply.vbak)) = true ∧ atPowerDown.mainLive = false) ∧
    (atReady.mainLive = true ∧ ¬(atReady.occ.isActive = true ∧ atReady.occ.gap + 1 = atReady.store.work.settle.gapLimit)) ∧
    (atGap.clock.isSet && (atGap.supply.vdd || atGap.supply.vbak)) = true ∧ atGap.mainLive = true ∧
      atGap.occ.state.record = some 212 ∧ atGap.occ.gap + 1 = atGap.store.work.settle.gapLimit := by decide

theorem witness_limitEvents :
    let s := { atGap with chain := { atGap.chain with stale := false } }
    ((s.clock.isSet && (s.supply.vdd || s.supply.vbak) && s.mainLive) = true ∧ s.occ.state.record = some 212 ∧
      s.occ.gap + 1 = s.store.work.settle.gapLimit ∧ s.chain.stale = false ∧
      s.store.work.settle.gapLimit ≤ min 255 (s.occ.staleness + 1)) ∧
    (atUnset.clock.isSet && (atUnset.supply.vdd || atUnset.supply.vbak) && atUnset.mainLive) = false ∧
    (atPowerDown.clock.isSet && (atPowerDown.supply.vdd || atPowerDown.supply.vbak) && atPowerDown.mainLive) = false ∧
    (atReady.clock.isSet && (atReady.supply.vdd || atReady.supply.vbak) && atReady.mainLive) = true ∧
      ¬(atReady.occ.isActive = true ∧ atReady.occ.gap + 1 = atReady.store.work.settle.gapLimit) ∧
      ¬(atReady.chain.stale = false ∧ atReady.store.work.settle.gapLimit ≤ min 255 (atReady.occ.staleness + 1)) := by decide

theorem witness_rounding : 0 < 1 ∧ (0 : Int) ≤ 0 := by decide

theorem witness_scatter :
    (sumsAt 1 0 0).n < 2 ∧ 2 ≤ (sumsAt 2 0 0).n ∧ (sumsAt 2 0 0).scatter < 65535 := by decide

theorem witness_sample : atReady.portReady .meter 12 = true ∧ atReady.occ.state = .none := by decide

theorem witness_sampleTerms :
    atReady.portReady .meter 12 = true ∧ atReady.store.work.inRange ∧ 0 < ({ SensorBlock.factory with tc := 29491 }).tc ∧
      SensorBlock.factory.tc = 0 ∧ atReady.chain.primed = false :=
  ⟨by decide, ⟨by decide, by decide, by decide, by decide, by decide⟩, by decide, by decide, by decide⟩

theorem witness_filterAndDrift :
    (0 : Int) ≤ 0 * 256 ∧ (8388352 : Int).natAbs ≤ 8388352 ∧ (32767 : Int).natAbs ≤ 32767 ∧
    (({ loop := 1, a := tieA, b := tieB } : ClosureEntry).a.time < ({ loop := 1, a := tieA, b := tieB } : ClosureEntry).b.time) ∧
    1000 ≤ tieA.time ∧ tieB.time ≤ 8200 ∧ tieA.time ≤ tieB.time := by decide

theorem witness_sampleSettling :
    (atSettling (begun 1 .station 1 0)).portReady .meter 12 = true ∧
      (atSettling (begun 1 .station 1 0)).occ.state = .settling 1 := by decide

theorem witness_sampleSettled :
    (atSettled (begun 1 .station 1 0) (sumsAt 65535 0 0)).portReady .meter 12 = true ∧
      (atSettled (begun 1 .station 1 0) (sumsAt 65535 0 0)).occ.state = .settled 1 := by decide

/-- A tide block in use, with one constituent (section 3.9.1). -/
def tideInUse : TideBlock :=
  { m := 1, delta := 19005, enabled := true, parts := [{ species := 2, f := 393436200, p := 0, a := 1080 }] }

theorem witness_tide :
    (TideBlock.factory.enabled = false ∧ TideBlock.factory.m = 0) ∧ tideInUse.enabled = true ∧ tideInUse.m ≠ 0 ∧
      ∀ c, some (formEntry { lat := 90000000, lon := -180000000 }) = some c → c = formEntry c.key :=
  ⟨by decide, by decide, by decide, fun c h => by cases h; rfl⟩

theorem witness_phase :
    ({ species := 0, f := 4294967295, p := 0, a := 0 } : Constituent).f < 2 ^ 32 ∧ (1 ≤ 4095 ∧ 4095 ≤ 4095) ∧ 2047 ≤ 2047 ∧
      1023 < 1024 := by decide

theorem witness_occupy :
    (atSurvey.portReady .survey 13 = true ∧ atSurvey.survey.state = .survey ∧ atSurvey.occ.state = .none ∧
      atSurvey.log.records.length < 512 ∧ atSurvey.log.counter < 4294967296) ∧
    ((0 : Byte) = 0 ∧ Kind.station = .station ∧ 1 ≤ (999999 : U32).toNat ∧ (999999 : U32).toNat ≤ 999999 ∧
      (90000000 : U32).toInt.natAbs ≤ 90000000 ∧ (180000000 : U32).toInt.natAbs ≤ 180000000) ∧
    (1 : Byte) = 1 ∧ Kind.base = .base ∧ (atSurvey.bases.any fun e => e.id == (9001 : U32).toNat) = true := by decide

theorem witness_occupyNext :
    (atSurvey.portReady .meter 0 = true ∧ atSurvey.survey.nextId = some 101 ∧
      ({ atSurvey with pendingPos := some { lat := 0, lon := 0 } } : State).pendingPos = some { lat := 0, lon := 0 }) ∧
    atClosure.portReady .survey 0 = true ∧ atClosure.survey.state = .survey ∧ atClosure.occ.state = .none ∧
      atClosure.log.records.length < 512 ∧ atClosure.log.counter < 4294967296 ∧ atClosure.survey.nextId = some 101 ∧
      atClosure.pendingPos = none ∧ atClosure.log.records.getLast?.map (·.pos) = some { lat := 45000000, lon := 15000000 } := by
  decide

theorem witness_occupyRefusals :
    (atReady.portReady .survey 13 = true ∧ atReady.portReady .meter 0 = true ∧ atReady.survey.state ≠ .survey) ∧
    ((atSettling (begun 1 .station 1 0)).survey.state = .survey ∧ (atSettling (begun 1 .station 1 0)).occ.state ≠ .none) ∧
    4294967296 ≤ ({ atSurvey with log := { records := [], counter := 4294967296 } } : State).log.counter ∧
    (¬(512 ≤ atSurvey.log.records.length ∨ 4294967296 ≤ atSurvey.log.counter) ∧ (1 : Byte) = 1 ∧
      ¬(atSurvey.bases.any fun e => e.id == (9002 : U32).toNat) = true ∧ ¬1 ≤ (0 : U32).toNat ∧ (0 : Byte) ≠ 1) ∧
    ({ atSurvey with survey := { atSurvey.survey with nextId := none } } : State).survey.nextId = none ∧
    (atSurvey.survey.nextId ≠ none ∧ atSurvey.pendingPos = none ∧ atSurvey.log.records = []) := by decide

theorem witness_endWithoutATie :
    let r := begun 401 .base 9001 0
    let s := atSettled r (sumsAt 59 25131943 1000)
    (s.portReady .survey 0 = true ∧ (s.survey.state = .survey ∨ s.survey.state = .held) ∧ s.activeRecord = some r ∧
      s.occ.sums.n < s.store.work.settle.minCount) ∧
    (atSettled (begun 1 .station 1 0) .clear).activeRecord = some (begun 1 .station 1 0) ∧
      (atSettled (begun 1 .station 1 0) .clear).occ.sums.n = 0 := by decide

theorem witness_endFormsATie :
    let r := begun 401 .base 9001 0
    let s := atSettled r (sumsAt 60 25131943 1000)
    s.portReady .survey 0 = true ∧ s.survey.state = .survey ∧ s.activeRecord = some r ∧ r.kind = .base ∧
      r.quality.short = false ∧ s.store.work.settle.minCount ≤ s.occ.sums.n ∧ 1 ≤ s.occ.sums.n ∧
      s.occ.sums.first = some { v := 25131943, t := 1000 } ∧
      s.bases.find? (fun x => x.id == r.station) = some { id := 9001, value := 12500000 } ∧ s.loop.opening = none ∧
      ({ s with loop := atClosure.loop } : State).loop.opening = some tieB ∧
      ({ s with queue := List.replicate 3 { loop := 1, a := tieA, b := tieB } } : State).queue.length < 4 := by decide

theorem witness_abandon :
    let r := begun 401 .base 9001 0
    let s := { atSettled r (sumsAt 60 0 0) with
      loop := atClosure.loop, queue := List.replicate 4 { loop := 1, a := tieA, b := tieB } }
    (atReady.portReady .meter 0 = true ∧ atReady.survey.state = .ready) ∧
    (atSurvey.survey.state = .survey ∧ atSurvey.occ.state = .none) ∧
    s.portReady .survey 0 = true ∧ s.survey.state = .survey ∧ s.activeRecord = some r ∧ r.kind = .base ∧
      s.store.work.settle.minCount ≤ s.occ.sums.n ∧ s.loop.opening.isSome = true ∧ 4 ≤ s.queue.length := by decide

theorem witness_logReads :
    atClosure.portReady .meter 4 = true ∧ atClosure.portReady .survey 0 = true ∧ atClosure.cursor .survey = none ∧
      ({ atClosure with uart := { atClosure.uart with cursor := some 401 } } : State).cursor .survey = some 401 := by decide

theorem witness_purge : atClosure.portReady .survey 4 = true := by decide

theorem witness_baseTable :
    let full := { atSurvey with bases := List.replicate 24 { id := 9001, value := 0 } }
    let used := atSettling (begun 1 .base 9001 0)
    (atSurvey.bases.Pairwise (fun a b => a.id < b.id) ∧ atSurvey.survey.state ≠ .unset ∧ 1 ≤ (999999 : U32).toNat ∧
      (999999 : U32).toNat ≤ 999999 ∧ atSurvey.portReady .survey 8 = true ∧ (200000000 : U32).toInt.natAbs ≤ 200000000 ∧
      (atSurvey.bases.find? fun e => e.id == 999999) = none ∧ atSurvey.bases.length < 24) ∧
    (atSurvey.portReady .survey 4 = true ∧ (atSurvey.bases.find? fun e => e.id == 9001).isSome = true ∧
      ¬(∃ r ∈ atSurvey.log.records, r.role ≠ .none ∧ r.station = 9001) ∧ atSurvey.activeRecord = none) ∧
    atUnset.survey.state = .unset ∧
    (used.activeRecord = some (begun 1 .base 9001 0) ∧ (begun 1 .base 9001 0).kind = .base ∧ used.portReady .survey 8 = true) ∧
    (∃ r ∈ [{ begun 1 .base 9001 0 with role := .first }], r.role ≠ .none ∧ r.station = 9001) ∧
    (24 ≤ full.bases.length ∧ ¬(full.bases.any fun e => e.id == 9002) = true) ∧
    ¬(atSurvey.bases.any fun e => e.id == 9002) = true ∧ ¬1 ≤ (0 : U32).toNat := by decide

theorem witness_closureStep :
    (atClosure.mainLive = true ∧ atClosure.startUp = none ∧
      atClosure.queue = { loop := 1, a := tieA, b := tieB } :: [] ∧ atClosure.closurePos = some 402 ∧ 402 < tieB.seq ∧
      tieB.seq ≤ 404) ∧ (atStage .finish).startUp ≠ none ∧ atReady.mainLive = true ∧ atReady.startUp = none ∧ atReady.queue = [] := by decide

theorem witness_openAndResume :
    let held := { atSurvey with survey := { atSurvey.survey with state := .held } }
    (atSurvey.portReady .survey 7 = true ∧ atSurvey.survey.state ≠ .ready) ∧
    (atReady.portReady .survey 7 = true ∧ atReady.survey.state = .ready ∧ atReady.store.commit = none ∧
      atReady.store.computing = false ∧ 1 ≤ (65535 : U16).toNat ∧ (0x9D : Byte).toInt = -99 ∧ ¬(0 : Byte).toInt ≠ 0) ∧
    (∃ b, atDirty.store.dirty.get b = true) ∧ ({ atReady.store with computing := true } : Store).computing = true ∧
    (held.portReady .meter 0 = true ∧ held.survey.state = .held ∧ held.store.computing = false) ∧
      (¬∃ b, held.store.defaulted.get b = true) ∧ (¬∃ b, atReady.store.dirty.get b = true) :=
  ⟨by decide, by decide, ⟨.settle, rfl⟩, rfl, by decide, fun ⟨b, h⟩ => by cases b <;> exact Bool.noConfusion h,
    fun ⟨b, h⟩ => by cases b <;> exact Bool.noConfusion h⟩

theorem witness_closeSurvey :
    (atReady.portReady .survey 0 = true ∧ ¬(atReady.survey.state = .survey ∨ atReady.survey.state = .held)) ∧
    (atSettling (begun 1 .station 1 0)).occ.state ≠ .none ∧ (atClosure.occ.state = .none ∧ atClosure.queue ≠ []) ∧
    atSurvey.occ.state = .none ∧ atSurvey.queue = [] ∧ (∀ b, atSurvey.store.defaulted.get b = false) ∧
      ∃ b, State.reset.store.defaulted.get b = true :=
  ⟨by decide, by decide, by decide, by decide, by decide, fun b => by cases b <;> rfl, ⟨.cal, rfl⟩⟩

theorem witness_lineAndPosition :
    atReady.portReady .survey 5 = true ∧ atReady.portReady .survey 9 = true ∧
      ¬(atReady.survey.state = .survey ∨ atReady.survey.state = .held) ∧ atSurvey.portReady .survey 5 = true ∧
      (99 : Byte).toInt ≤ 99 ∧ (90000000 : U32).toInt.natAbs ≤ 90000000 ∧ ¬(90000001 : U32).toInt.natAbs ≤ 90000000 ∧
      ¬(100 : Byte).toInt ≤ 99 := by decide

theorem witness_surveyLock :
    atSurvey.survey.state = .survey ∧ (Instr.writeItem .survey (.loop 2000 600)).request.isSome = true ∧
      (saw (fun t => t.store.work.loop) (exec (.writeItem .survey (.loop 2000 600)) atSurvey)).isSome = true := by decide

/-- Each row: an item, a port that may write its block, and one field at the end of its range or just beyond it. -/
theorem witness_writeItem :
    (∀ w ∈ [ItemWrite.settle 65535 32 31 30 65535, .settle 1 3 1 1 1, .tideHeader 16 1 32767, .tideHeader 16 2 0,
        .constituent 15 2 0x8001 0xFFFFFFFF 0x00FFFFFF, .constituent 15 3 0 0 0, .loop 10000000 86400, .loop 1 599,
        .absent 6 0, .absent 5 1, .absentBlock 0, .absentBlock 6],
      atReady.portReady .survey (encodePayload (.writeItem .survey w)).length = true) ∧
    (∀ w ∈ [ItemWrite.calHeader 80 1000, .calHeader 81 0, .calInterval 79 100000000 0x80000000,
        .calInterval 0 100000001 1, .sensor 0x8001 0x7FFF 1048575 3000 0x80000000 10, .sensor 0x8000 0 0 1 0 0,
        .settle 40 16 6 3 60],
      atReady.portReady .meter (encodePayload (.writeItem .meter w)).length = true) ∧
    ¬(1 ≤ (0 : Byte).toNat ∧ (0 : Byte).toNat ≤ 5) ∧ ¬(1 ≤ (6 : Byte).toNat ∧ (6 : Byte).toNat ≤ 5) ∧
    (0x8001 : U16).toInt = -32767 ∧ ¬-32767 ≤ (0x8000 : U16).toInt ∧
    ¬(atReady.survey.state = .survey ∨ atReady.survey.state = .held) ∧ atReady.store.commit = none ∧
      ({ atReady.store with commit := some [.cal] } : Store).commit.isSome = true ∧ atSurvey.survey.state = .survey := by decide

theorem witness_writtenItem :
    (ItemWrite.calInterval 79 100000000 0x80000000).wellFormed = true ∧
      writtenBlock (.calInterval 79 100000000 0x80000000) = some .cal ∧
      acceptedValue (.calInterval 79 100000000 0x80000000) = some (.calInterval { g := 100000000, f := 2147483648 }) ∧
      Constants.factory.cal.intervals.length = 80 ∧ Constants.factory.tide.parts.length = 16 := by decide

theorem witness_commit :
    let edited := { atReady.store with dirty := { PerBlock.all false with loop := true } }
    let apart := { CalBlock.factory with intervals := CalBlock.factory.intervals.set 0 { g := 1001, f := 1 } }
    (atSurvey.portReady .meter 0 = true ∧ atSurvey.survey.state = .survey) ∧
    (atDirty.portReady .meter 0 = true ∧ ¬(atDirty.survey.state = .survey ∨ atDirty.survey.state = .held) ∧
      atDirty.store.commit = none ∧ atDirty.store.computing = false ∧
      atDirty.store.toCommit = [] ++ Block.settle :: [.loop] ∧ atDirty.nv.settle ≠ some atDirty.store.work.settle) ∧
    (edited.toCommit = [.loop] ++ [] ∧ 1 ≤ edited.work.loop.limit ∧ edited.work.loop.limit ≤ 10000000 ∧
      600 ≤ edited.work.loop.ll ∧ edited.work.loop.ll ≤ 86400 ∧ atDirty.nv.loop = some edited.work.loop) ∧
    (({ atReady.store with work := { Constants.factory with cal := apart }, dirty := { PerBlock.all false with cal := true } } :
        Store).toCommit = [] ++ Block.cal :: [] ∧
      0 + 1 < apart.n ∧ apart.intervals[0]? = some { g := 1001, f := 1 } ∧
      apart.intervals[1]? = some { g := 1000000, f := 1073741824 } ∧
      ¬((1000000 : Int) - (1001 + roundDiv (1000000 * ((1 : Nat) : Int)) (2 ^ 30))).natAbs ≤ apart.tol) := by decide

theorem witness_blockWrite :
    (atReady.mainLive = true ∧ atReady.store.commit = none) ∧
    ({ atDirty.store with commit := some [.settle, .loop] } : Store).commit = some (.settle :: [.loop]) ∧
    ([Block.loop].takeWhile fun x => (atDirty.nv.write atDirty.store.work .settle).holds atDirty.store.work x) = [.loop] ∧
    ([Block.loop].takeWhile fun x => (Images.blank.write atDirty.store.work .settle).holds atDirty.store.work x) = [] ∧
    ({ atDirty with pauses := true } : State).pauses = true ∧ atDirty.pauses = false ∧
    (saw (fun t => t.nv) (exec (.softReset .meter) { atDirty with
      store := { atDirty.store with commit := some [.settle, .loop] } })).isSome = true := by decide

theorem witness_discard :
    (atSurvey.portReady .survey 0 = true ∧ atSurvey.survey.state = .survey) ∧
    (atDirty.portReady .survey 0 = true ∧ atDirty.store.commit = none ∧
      ¬(atDirty.survey.state = .survey ∨ atDirty.survey.state = .held)) ∧
    (atDirty.nv.settle = some .factory ∧ (ItemValue.settle SettleBlock.factory).inRange = true) ∧
    (ItemValue.settle { SettleBlock.factory with a := 33 }).inRange = false ∧ atReady.nv.settle = none := by decide

theorem witness_digest :
    (State.reset.storeLive = true ∧ State.reset.store.computing = true) ∧ atReady.store.computing = false ∧
      (atStage .mainDomain).startUp = some .mainDomain ∧ (atStage .constants).startUp = some .constants ∧
      atReady.supply.vdd = true ∧ atPowerDown.supply.vdd = false := by decide

theorem witness_restarts :
    (atPowerDown.supply.vdd = false ∧ atPowerDown.supply.resetLow = false ∧ atPowerDown.mark = true ∧
      ({ atPowerDown with mark := false } : State).mark = false) ∧
    ((atHeld false).supply.vdd = true ∧ (atHeld false).supply.resetLow = true ∧ (atHeld false).supply.restartDue = false ∧
      (atHeld true).supply.restartDue = true ∧ (atHeld true).mark = true) ∧
    atSurvey.portReady .survey 0 = true := by decide

theorem witness_restartBegins :
    (atReady.supply.vdd = true ∧ atReady.supply.resetLow = false) ∧
    ({ vdd := false, vbak := true, resetLow := true, restartDue := false } : Supply).resetLow = true ∧
    (atPowerDown.supply.vdd = false ∧ atPowerDown.mark = true) ∧ (atHeld true).supply.restartDue = true ∧
    atReady.portReady .meter 0 = true := by decide

theorem witness_stages :
    atReady.startUp = none ∧ (atStage .mainDomain).supply.vdd = true ∧ (atStage .mainDomain).supply.resetLow = false ∧
      (atStage .mainDomain).startUp = some .mainDomain ∧ (atStage .constants).startUp = some .constants ∧
      (atStage .finish).startUp = some .finish := by decide

theorem witness_surveyState :
    let found := fun (x : SurveyState) (c : Cause) =>
      ({ atStage .surveyState with survey := { atSurvey.survey with state := x, lastCause := c } } : State)
    ((found .survey .powerLost).supply.vdd = true ∧ (found .survey .powerLost).supply.resetLow = false ∧
      (found .survey .powerLost).startUp = some .surveyState ∧ (found .survey .powerLost).survey.lastCause = .powerLost) ∧
    ((found .ready .soft).survey.lastCause ≠ .powerLost ∧ (found .ready .soft).survey.state = .ready) ∧
    (∀ b, (found .ready .soft).store.defaulted.get b = false) ∧ (∃ b, State.reset.store.defaulted.get b = true) ∧
    (found .held .soft).survey.state = .held ∧ (found .unset .soft).survey.state = .unset :=
  ⟨by decide, by decide, fun b => by cases b <;> rfl, ⟨.cal, rfl⟩, by decide, by decide⟩

theorem witness_supplies : atReady.supply.vdd = true ∧ atPowerDown.supply.vdd = false ∧ true = true ∧ false = false := by decide

theorem witness_firstPowerOn :
    let s := { atPowerDown with mark := false }
    s.supply.vdd = false ∧ s.supply.resetLow = false ∧ s.mark = false ∧
      s.nv = { cal := none, sensor := none, tide := none, settle := none, loop := none } := by decide

theorem witness_meterTransactions :
    atReady.supply.vdd = true ∧ atReady.supply.resetLow = false ∧ 0 < 1 ∧ atReady.meter.slot = .idle ∧
      atReady.supply.restartDue = false ∧ (∀ txn, atReady.meter.txn = some txn → txn.discard = false) ∧
      ({ atReady.meter with txn := some { discard := true, clocked := 1 } } : MeterPort).txn =
        some { discard := true, clocked := 1 } ∧
      ({ atReady.meter with slot := .taking (okAnswer .empty) } : MeterPort).slot = .taking (okAnswer .empty) ∧
      ({ atReady.meter with slot := .holding (okAnswer .empty) } : MeterPort).slot = .holding (okAnswer .empty) :=
  ⟨rfl, rfl, by decide, rfl, rfl, fun _ h => by cases h; rfl, rfl, rfl, rfl⟩

theorem witness_meterFrames :
    (atReady.supply.vdd = true ∧ atReady.supply.resetLow = false ∧
      atReady.meter.txn = some { discard := false, clocked := 83 } ∧ (List.replicate 83 (0xFF : Byte)).length ≤ 83) ∧
    (80 < (81 : Byte).toNat ∧ (80 : Byte).toNat ≤ 80) ∧
    ([(0x1E : Byte), 0, 0xE2].map (·.toNat)).sum % 256 = 0 ∧ (∀ r : Req, r.code ≠ 0x1E) ∧
    decodePayload .meter .setMask [0] = none :=
  ⟨by decide, by decide, by decide, fun r => by cases r <;> decide, by decide⟩

theorem witness_surveyPort :
    (atReady.supply.vdd = true ∧ atReady.supply.resetLow = false ∧ atReady.uart.rx = .hunt ∧ atReady.uart.out = none ∧
      (0xA4 : Byte) ≠ 0xA5 ∧ 250 < (251 : Byte).toNat ∧ 1 ≤ (250 : Byte).toNat ∧ (250 : Byte).toNat ≤ 250) ∧
    (([(0x01 : Byte), 0x1E, 0xE1].map (·.toNat)).sum % 256 = 0 ∧ (∀ r : Req, r.code ≠ 0x1E)) ∧
    decodePayload .survey .setMask [] = none ∧
    (({ atReady.uart with rx := .receive, timer := true } : SurveyPort).timer = true ∧ atReady.uart.timer = false) ∧
    (([] : List Byte) ++ [0x01] = (0x01 : Byte) :: [] ∧ ([] : List Byte).length < (0x01 : Byte).toNat + 1 ∧
      [0x01, 0x02] ++ [0xFD] = (0x01 : Byte) :: 0x02 :: [0xFD] ∧ [(0xFD : Byte)].length = (0x01 : Byte).toNat ∧
      ([(0x01 : Byte), 0x02, 0xFD].map (·.toNat)).sum % 256 = 0 ∧ Req.readLive.code = 0x02 ∧
      decodePayload .survey .readLive [0xFD].dropLast = some (.readLive .survey)) ∧
    (([0x02, 0xFD] : List Byte) ≠ [] ∧ [0x01] ++ [0x02, 0xFD] = (0x01 : Byte) :: [0x02, 0xFD] ∧
      [(0x02 : Byte), 0xFD].length = (0x01 : Byte).toNat + 1) ∧
    atReady.supply.restartDue = false ∧
    ({ atReady.uart with out := some { code := 2, reply := okAnswer .empty, sending := true } } : SurveyPort).out =
      some { code := 2, reply := okAnswer .empty, sending := true } :=
  ⟨by decide, ⟨by decide, fun r => by cases r <;> decide⟩, by decide, by decide, by decide, by decide, by decide, by decide⟩

theorem witness_frames :
    (Instr.readLive .meter).request = some (.meter, .readLive) ∧ (Instr.readLive .meter).wellFormed = true ∧
      encodeFrame (.readLive .meter) = some [0x02, 0x00, 0xFE] ∧
      atReady.portOpen .meter (encodePayload (.readLive .meter)).length = true ∧
    (Instr.setMask .survey 0x1FFF).request = some (.survey, .setMask) ∧ (Instr.setMask .survey 0x1FFF).wellFormed = true ∧
      (encodeFrame (.setMask .survey 0x1FFF)).isSome = true ∧
      atReady.portOpen .survey (encodePayload (.setMask .survey 0x1FFF)).length = true ∧ atReady.uart.rx = .hunt := by decide

/-- The step of a state that has a second boundary waiting answers a next state. -/
def steps (s : State) : Bool := (saw (fun t => t.clock.value) (step { s with pending := [.secondBoundary] })).isSome

theorem witness_blocksInvariants :
    steps atGap = true ∧ atGap.clockInv ∧ atGap.baseInv ∧ atGap.eventInv ∧ atGap.cacheInv ∧ atGap.windowInv :=
  ⟨by decide, fun _ => by decide, fun _ => ⟨by decide, by decide, by decide⟩, fun _ p => by cases p <;> decide,
    fun _ e h => by simp [atGap, atSettling, atSurvey, atReady, State.reset] at h,
    fun _ => ⟨by decide, fun q h => by simp [atGap, atSettling] at h, fun _ => by decide⟩⟩

theorem witness_records :
    let s := atSettling (begun 401 .base 9001 0)
    steps s = true ∧ s.recordInv :=
  ⟨by decide, fun h => by simp [atSettling, atSurvey, atReady, State.reset] at h, fun _ => by unfold Log.wf; decide,
    fun _ => ⟨fun _ => ⟨by decide, fun q h => ⟨begun 401 .base 9001 0, by decide, by simpa [atSettling, OccState.record] using h⟩⟩,
      fun _ h => by simp [atSettling, atSurvey, atReady, State.reset] at h⟩,
    fun _ => ⟨fun r hr h => absurd (by simp [atSettling] at hr; subst hr; rfl) h, by decide⟩⟩

theorem witness_queueAndReductions :
    steps atClosure = true ∧ atClosure.queueInv ∧ atClosure.reducedInv :=
  ⟨by decide, fun _ => ⟨by decide, by decide, by decide, fun _ => by decide, fun h => by simp [atClosure, atSurvey, atReady, State.reset] at h⟩,
    fun _ r hr _ res f h1 h2 => by
      simp [atClosure] at hr
      rcases hr with rfl | rfl <;> cases h1 <;> cases h2 <;> rfl⟩

theorem witness_store : steps atDirty = true ∧ atDirty.storeInv :=
  ⟨by decide, fun _ => ⟨⟨by decide, by decide, by decide, by decide, by decide⟩, fun b h => by
    cases b <;> first | rfl | exact Bool.noConfusion h⟩⟩

end Sys2Proof.Tests
end

/-! SUPPORT. The arithmetic of Chapter 1 (R2 to R4), and what the ports do with a request that leaves the state as it is or comes
during start-up; the statements on quantities and the survey clock. -/

namespace Sys2Proof.Machine

/-! ## Rounding, floor and modulo (R2, R3) -/

theorem roundDiv_of_neg {a : Int} (h : a < 0) (b : Nat) : roundDiv a b = -(((2 * a.natAbs + b) / (2 * b) : Nat) : Int) := if_pos h

theorem roundDiv_of_nonneg {a : Int} (h : 0 ≤ a) (b : Nat) : roundDiv a b = (((2 * a.natAbs + b) / (2 * b) : Nat) : Int) :=
  if_neg (Int.not_lt.2 h)

theorem roundDiv_nonneg {a : Int} (h : 0 ≤ a) (b : Nat) : 0 ≤ roundDiv a b := by
  rw [roundDiv_of_nonneg h]
  exact Int.natCast_nonneg _

theorem natAbs_roundDiv (a : Int) (b : Nat) : (roundDiv a b).natAbs = (2 * a.natAbs + b) / (2 * b) := by
  rcases lt_or_ge a 0 with h | h
  · rw [roundDiv_of_neg h, Int.natAbs_neg, Int.natAbs_natCast]
  · rw [roundDiv_of_nonneg h, Int.natAbs_natCast]

theorem roundDiv_zero {b : Nat} (hb : 0 < b) : roundDiv 0 b = 0 := by
  have hq : (2 * (0 : Int).natAbs + b) / (2 * b) = 0 := Nat.div_eq_of_lt (by simp; omega)
  rw [roundDiv_of_nonneg le_rfl, hq, Nat.cast_zero]

theorem roundDiv_neg (a : Int) {b : Nat} (hb : 0 < b) : roundDiv (-a) b = -roundDiv a b := by
  rcases lt_trichotomy a 0 with h | rfl | h
  · rw [roundDiv_of_neg h, roundDiv_of_nonneg (by omega), Int.natAbs_neg, neg_neg]
  · rw [neg_zero, roundDiv_zero hb, neg_zero]
  · rw [roundDiv_of_nonneg h.le, roundDiv_of_neg (by omega), Int.natAbs_neg]

/-- A rounded quotient has its numerator's sign, so its error can be read off the absolute values. -/
theorem natAbs_sub_mul_roundDiv (a : Int) (b : Nat) :
    (a - b * roundDiv a b).natAbs = ((a.natAbs : Int) - (b * (roundDiv a b).natAbs : Nat)).natAbs := by
  rw [natAbs_roundDiv]
  rcases lt_or_ge a 0 with h | h
  · rw [roundDiv_of_neg h, mul_neg, ← Nat.cast_mul]
    omega
  · rw [roundDiv_of_nonneg h, ← Nat.cast_mul]
    omega

/-- The absolute value of a rounded quotient is the greatest whose multiple of `b` is at most half of `b` above the numerator's. -/
theorem mul_natAbs_roundDiv_bounds (a : Int) {b : Nat} (hb : 0 < b) :
    2 * (b * (roundDiv a b).natAbs) ≤ 2 * a.natAbs + b ∧ 2 * a.natAbs < 2 * (b * (roundDiv a b).natAbs) + b := by
  rw [natAbs_roundDiv, ← mul_assoc]
  have hle := Nat.mul_div_le (2 * a.natAbs + b) (2 * b)
  have hlt := Nat.lt_mul_div_succ (2 * a.natAbs + b) (show 0 < 2 * b by omega)
  rw [mul_add_one] at hlt
  exact ⟨hle, by omega⟩

theorem roundDiv_nearest (a : Int) {b : Nat} (hb : 0 < b) : 2 * (a - b * roundDiv a b).natAbs ≤ b := by
  have hbounds := mul_natAbs_roundDiv_bounds a hb
  rw [natAbs_sub_mul_roundDiv]
  omega

theorem roundDiv_tie_away (a : Int) {b : Nat} (hb : 0 < b) (ht : 2 * (a - b * roundDiv a b).natAbs = b) :
    a.natAbs < b * (roundDiv a b).natAbs := by
  have hbounds := mul_natAbs_roundDiv_bounds a hb
  rw [natAbs_sub_mul_roundDiv] at ht
  omega

theorem mul_floorDiv_le (a : Int) {b : Nat} (hb : 0 < b) : b * floorDiv a b ≤ a :=
  Int.mul_ediv_self_le (by omega)

theorem lt_mul_floorDiv_add (a : Int) {b : Nat} (hb : 0 < b) : a < b * floorDiv a b + b :=
  Int.lt_mul_ediv_self_add (by omega)

theorem natCast_modNat (a : Int) {b : Nat} (hb : 0 < b) : (modNat a b : Int) = a % b :=
  Int.toNat_of_nonneg (Int.emod_nonneg a (by omega))

theorem modNat_lt (a : Int) {b : Nat} (hb : 0 < b) : modNat a b < b := by
  have hlt : (modNat a b : Int) < b := natCast_modNat a hb ▸ Int.emod_lt_of_pos a (by omega)
  exact Int.ofNat_lt.1 hlt

theorem dvd_sub_modNat (a : Int) {b : Nat} (hb : 0 < b) : (b : Int) ∣ a - modNat a b :=
  natCast_modNat a hb ▸ Int.dvd_self_sub_emod

/-- Settles O17: the absolute value of the rounded quotient is between the bounds of `mul_natAbs_roundDiv_bounds`, and its sign is
the numerator's. -/
theorem roundingIsToNearest : Obligations.RoundingIsToNearest :=
  ⟨by decide, by decide, by decide, fun a _ hb =>
    ⟨roundDiv_zero hb, fun h => roundDiv_nonneg h _, roundDiv_nearest a hb, roundDiv_tie_away a hb, roundDiv_neg a hb,
      mul_floorDiv_le a hb, lt_mul_floorDiv_add a hb, modNat_lt a hb, dvd_sub_modNat a hb⟩⟩

/-! ## The integer square root and the scatter (R4, R81) -/

/-- The bits keep the root between the accumulator and the accumulator with every remaining bit set. -/
theorem isqrtBits_isRoot (x k acc : Nat) (hlo : acc * acc ≤ x) (hhi : x < (acc + 2 ^ k) * (acc + 2 ^ k)) :
    isqrtBits x k acc * isqrtBits x k acc ≤ x ∧ x < (isqrtBits x k acc + 1) * (isqrtBits x k acc + 1) := by
  induction k generalizing acc with
  | zero => exact ⟨hlo, hhi⟩
  | succ k ih =>
    rw [isqrtBits]
    split
    case isTrue hbit =>
      refine ih _ hbit ?_
      rwa [add_assoc, ← two_mul, ← pow_succ']
    case isFalse hbit => exact ih acc hlo (Nat.not_le.1 hbit)

/-- The first bit tried is high enough. -/
theorem lt_square_of_log2 (x : Nat) : x < 2 ^ (x.log2 / 2 + 1) * 2 ^ (x.log2 / 2 + 1) := by
  rw [← pow_add]
  calc x < 2 ^ (x.log2 + 1) := Nat.lt_log2_self
    _ ≤ 2 ^ (x.log2 / 2 + 1 + (x.log2 / 2 + 1)) := Nat.pow_le_pow_right (by decide) (by omega)

theorem isqrt_isRoot (x : Nat) : isqrt x * isqrt x ≤ x ∧ x < (isqrt x + 1) * (isqrt x + 1) :=
  isqrtBits_isRoot x _ 0 (Nat.zero_le x) (by simpa using lt_square_of_log2 x)

theorem Sums.scatter_of_lt_two {a : Sums} (h : a.n < 2) : a.scatter = 0 := if_pos h

theorem Sums.scatter_of_two_le {a : Sums} (h : 2 ≤ a.n) :
    a.scatter = min 65535 (isqrt (((a.n : Int) * a.sumD2 - a.sumD * a.sumD).toNat / (a.n * (a.n - 1)))) := by
  rw [Sums.scatter, if_neg (Nat.not_lt.2 h)]
  dsimp only
  split <;> omega

/-- Settles O18: each bit of `isqrtBits` keeps the root in its bracket, and the scatter is the lesser of that root and 65,535. -/
theorem scatterIsAFlooredRoot : Obligations.ScatterIsAFlooredRoot := by
  refine ⟨by decide, by decide, by decide, isqrt_isRoot, fun _ => Sums.scatter_of_lt_two, fun a hn => ?_⟩
  intro q
  have hs : a.scatter = min 65535 (isqrt q) := Sums.scatter_of_two_le hn
  obtain ⟨hlo, hhi⟩ := isqrt_isRoot q
  refine ⟨hs ▸ Nat.min_le_left _ _, ?_, fun hlt => ?_⟩
  · have hle : a.scatter ≤ isqrt q := hs ▸ Nat.min_le_right _ _
    exact (Nat.mul_le_mul hle hle).trans hlo
  · have heq : a.scatter = isqrt q := by omega
    rwa [heq]

/-! ## Requests that leave the state, and requests during start-up -/

/-- An answer put into the port on which its request has been taken, where nothing else has changed. -/
theorem State.opened_holdAnswer (s : State) (p : Port) (r : Req) (a : Response) :
    (s.opened p).holdAnswer p r (some a) = s.replied p r a := by cases p <;> rfl

/-- Taking a request touches the port alone, so the clock stands. -/
@[simp] theorem State.opened_clock (s : State) (p : Port) : (s.opened p).clock = s.clock := by cases p <;> rfl

/-- A request whose operation leaves the state is answered, and nothing else changes. -/
theorem exec_ready_replied {s : State} {i : Instr} {p : Port} {r : Req} {a : Response} (h : i.request = some (p, r))
    (hr : s.portReady p (encodePayload i).length = true) (ho : operationOf i (s.opened p) = (s.opened p, some a)) :
    exec i s = .next (s.replied p r a) := by
  rw [exec_ready h hr, ho, State.opened_holdAnswer]

theorem State.portOpen_supply {s : State} {p : Port} {n : Nat} (h : s.portOpen p n = true) :
    s.supply.vdd = true ∧ s.supply.resetLow = false := by
  simp only [State.portOpen, Bool.and_eq_true, Bool.not_eq_true'] at h
  exact h.1

theorem State.portOpen_meter {s : State} {n : Nat} (h : s.portOpen .meter n = true) :
    ∃ t, s.meter.txn = some t ∧ t.discard = false ∧ n + 3 ≤ t.clocked := by
  cases ht : s.meter.txn with
  | none => simp [State.portOpen, ht] at h
  | some t =>
    simp only [State.portOpen, ht, Bool.and_eq_true, Bool.not_eq_true', decide_eq_true_eq] at h
    exact ⟨t, rfl, h.2⟩

theorem State.portOpen_survey {s : State} {n : Nat} (h : s.portOpen .survey n = true) : s.uart.out = none := by
  simp only [State.portOpen, Bool.and_eq_true, Option.isNone_iff_eq_none] at h
  exact h.2.1

/-- On an open port a request other than STATUS is answered BUSY at once during start-up (R144). -/
theorem State.take_startUp {s : State} {p : Port} {r : Req} {n : Nat} (op : State → Served) (h : s.portOpen p n = true)
    (hu : s.startUp ≠ none) : s.take p r n false op = s.answeredAtOnce p r.code (refusal .busy) := by
  obtain ⟨hv, hl⟩ := State.portOpen_supply h
  have hr : s.receiving = true := by simp [State.receiving, hv, hl]
  have hb : s.inStartUp = true := Option.isSome_iff_ne_none.2 hu
  unfold State.take
  rw [if_pos hr]
  cases p with
  | meter =>
    obtain ⟨t, ht, hd, hn⟩ := State.portOpen_meter h
    have ho : s.openTxn (n + 3) = s := by simp [State.openTxn, ht]
    simp only [State.takeMeter, ho, ht, hd, hb, Nat.not_lt.2 hn, Bool.not_false, Bool.and_self, Bool.false_eq_true, if_false,
      if_true]
    rfl
  | survey =>
    simp only [State.takeSurvey, State.portOpen_survey h, hb, Option.isSome_none, Bool.not_false, Bool.and_self,
      Bool.false_eq_true, if_false, if_true]
    rfl

/-- During start-up the row of a request other than STATUS is answered BUSY at once by its port. -/
theorem exec_startUp_busy {s : State} {i : Instr} {p : Port} {r : Req} (h : i.request = some (p, r))
    (ha : i.alwaysTaken = false) (hp : s.portOpen p (encodePayload i).length = true) (hu : s.startUp ≠ none) :
    exec i s = .next (s.answeredAtOnce p r.code (refusal .busy)) := by
  rw [exec_request h (State.portOpen_hunt hp), ha, State.take_startUp _ hp hu]

/-! ## READ CLOCK (R12) -/

theorem exec_readClock {s : State} {p : Port} (h : s.portReady p 0 = true) :
    exec (.readClock p) s = .next (s.replied p .readClock (okAnswer (.clock s.clock.value s.clock.isSet))) :=
  exec_ready_replied rfl h (by simp [operationOf, opReadClock, accept, okAnswer])

/-- An answer that the meter port's slot takes is given, and the following transaction shifts it out (R157). -/
theorem meter_answer_shiftedOut (s : State) (r : Req) (a : Response) {n : Nat} (hv : s.supply.vdd = true)
    (hl : s.supply.resetLow = false) (hd : s.supply.restartDue = false) (hn : 0 < n) :
    ∃ u w, exec (.operationAnswer .meter) (s.replied .meter r a) = .next u ∧ exec (.csnFall n) u = .next w ∧
      w.pins.miso = (meterFrame a ++ List.replicate n 0).take n := by
  obtain ⟨m, rfl⟩ := Nat.exists_eq_add_one_of_ne_zero hn.ne'
  let u := (s.replied .meter r a).setSlot (.holding a)
  have hp : (s.replied .meter r a).powered = true := by simp [State.powered, State.replied, hv, hd]
  have hr : u.receiving = true := by simp [u, State.receiving, State.replied, State.setSlot, hv, hl]
  refine ⟨u, u.csFall (m + 1), ?_, ?_, rfl⟩
  · exact congrArg _ (if_pos hp)
  · exact congrArg _ (if_pos hr)

/-- Settles O7: READ CLOCK's operation leaves the state, its port answers BUSY in start-up, and the meter port's next transaction
shifts the answer out. -/
theorem readClockReturnsTheClock : Obligations.ReadClockReturnsTheClock := by
  intro s p
  refine ⟨fun h => ⟨exec_readClock h, fun hinv hmark hset => ?_⟩, fun h hu => ?_, fun h hd n hn => ?_⟩
  · obtain ⟨hunset, -⟩ := hinv hmark
    rw [exec_readClock h, hset, (hunset hset).1]
  · exact ⟨true, exec_startUp_busy rfl rfl h hu⟩
  · obtain ⟨hopen, -⟩ := Bool.and_eq_true_iff.1 h
    obtain ⟨hv, hl⟩ := State.portOpen_supply hopen
    obtain ⟨u, w, ha, hf, hm⟩ :=
      meter_answer_shiftedOut s .readClock (okAnswer (.clock s.clock.value s.clock.isSet)) hv hl hd hn
    exact ⟨_, u, w, exec_readClock h, ha, hf, hm⟩

end Sys2Proof.Machine

/-! SUPPORT. What a taken SAMPLE leaves in the correction chain, and the ranges of the four terms of a corrected value (Chapter 2). -/

namespace Sys2Proof.Machine

/-! ## Clamps and rounded quotients within bounds (R2, R5) -/

theorem le_clampInt {lo hi : Int} (h : lo ≤ hi) (x : Int) : lo ≤ clampInt lo hi x := by
  unfold clampInt
  split_ifs <;> omega

theorem clampInt_le {lo hi : Int} (h : lo ≤ hi) (x : Int) : clampInt lo hi x ≤ hi := by
  unfold clampInt
  split_ifs <;> omega

/-- A clamp whose lower end is not above 0 keeps a value that is not above 0 so. -/
theorem clampInt_nonpos {lo hi x : Int} (hlo : lo ≤ 0) (hx : x ≤ 0) : clampInt lo hi x ≤ 0 := by
  unfold clampInt
  split_ifs <;> omega

/-- A numerator of at most `m` divisors rounds to at most `m`. -/
theorem roundDiv_le {a : Int} {b m : Nat} (hb : 0 < b) (h : a ≤ b * m) : roundDiv a b ≤ m := by
  rcases lt_or_ge a 0 with hneg | hpos
  · rw [roundDiv_of_neg hneg]
    exact (neg_nonpos.2 (Int.natCast_nonneg _)).trans (Int.natCast_nonneg m)
  · have hn : a.natAbs ≤ b * m := by zify; rwa [abs_of_nonneg hpos]
    have hq : (2 * a.natAbs + b) / (2 * b) < m + 1 := Nat.div_lt_of_lt_mul (by rw [mul_assoc, mul_add_one]; omega)
    rw [roundDiv_of_nonneg hpos]
    omega

/-! ## The terms of a corrected value (R23, R26, R27, R30, R33) -/

/-- A signed field of SAMPLE is never −32,768 (R6). -/
theorem natAbs_sampleField_le (x : U16) : (sampleField x).natAbs ≤ 32767 := by
  have hlo := BitVec.le_toInt x
  have hhi := BitVec.toInt_lt (x := x)
  unfold sampleField
  split <;> omega

theorem SensorBlock.offsets_of_inRange {k : SensorBlock} (h : (ItemValue.sensor k).inRange = true) :
    k.ox.natAbs ≤ 32767 ∧ k.oy.natAbs ≤ 32767 := by
  simp only [ItemValue.inRange, withinInt, within, Bool.and_eq_true, decide_eq_true_eq] at h
  omega

/-- The residual of one axis is within 65,534, whatever the frame carries (R26). -/
theorem natAbs_residual_le (x : U16) {o : Int} (ho : o.natAbs ≤ 32767) : (sampleField x - o).natAbs ≤ 65534 := by
  have hx := natAbs_sampleField_le x
  omega

theorem tiltExceeds_iff (rx ry : Int) (limit : Nat) :
    tiltExceeds rx ry limit = true ↔ limit < rx.natAbs ∨ limit < ry.natAbs := by
  simp [tiltExceeds]

theorem tiltTerm_bounds (rx ry : Int) (kt : Nat) : 0 ≤ tiltTerm rx ry kt ∧ tiltTerm rx ry kt ≤ 1000000 :=
  ⟨le_clampInt (by decide) _, clampInt_le (by decide) _⟩

theorem tempTerm_bounds (tf tc : Int) : -1000000 ≤ tempTerm tf tc ∧ tempTerm tf tc ≤ 1000000 :=
  ⟨le_clampInt (by decide) _, clampInt_le (by decide) _⟩

theorem tempTerm_zero (tf : Int) : tempTerm tf 0 = 0 := by
  rw [tempTerm, mul_zero, roundDiv_zero (by decide)]
  rfl

/-- A sensor that reads high when warm is corrected downwards when it is warm (R30). -/
theorem tempTerm_nonpos {tf tc : Int} (htc : 0 ≤ tc) (htf : 0 ≤ tf) : tempTerm tf tc ≤ 0 :=
  clampInt_nonpos (by decide) (neg_nonpos.2 (roundDiv_nonneg (mul_nonneg htf htc) _))

theorem filterStep_unprimed (tf dT : Int) (shift : Nat) : filterStep tf false dT shift = dT * 256 := rfl

/-- The tide term is within its clamp, or 0 where there is no evaluation (R33). -/
theorem tideTerm_bounds (b : TideBlock) (cache : Option CacheEntry) (pos : Option Position) (isSet : Bool) (t : Nat) :
    -4000 ≤ (tideTerm b cache pos isSet t).tidec ∧ (tideTerm b cache pos isSet t).tidec ≤ 4000 := by
  unfold tideTerm
  dsimp only
  split
  · exact ⟨le_clampInt (by decide) _, clampInt_le (by decide) _⟩
  · simp

/-- A used reading lies in one of the 80 intervals (R23, R24). -/
theorem CalBlock.calIndex_used_lt {c : CalBlock} (hn : 1 ≤ c.n ∧ c.n ≤ 80) (r : Nat) : calIndex (c.used r) < 80 := by
  unfold CalBlock.used CalBlock.top calIndex
  split <;> omega

/-- A used reading is converted through an interval of the block, whose values are in range (R19, R23). -/
theorem CalBlock.convert_used {c : CalBlock} (h : c.inRange = true) (r : Nat) :
    ∃ v : Interval, 0 ≤ v.g ∧ v.g ≤ 100000000 ∧ v.f ≤ 2147483648 ∧
      c.convert (c.used r) = v.g + roundDiv ((calOffset (c.used r) : Int) * (v.f : Int)) 1073741824 := by
  simp only [CalBlock.inRange, ItemValue.inRange, withinInt, within, Bool.and_eq_true, decide_eq_true_eq,
    List.all_eq_true] at h
  obtain ⟨⟨⟨hn, -⟩, hlen⟩, hall⟩ := h
  have hi : calIndex (c.used r) < c.intervals.length := hlen ▸ CalBlock.calIndex_used_lt hn r
  obtain ⟨⟨hg0, hg⟩, -, hf⟩ := hall _ (List.getElem_mem hi)
  refine ⟨c.intervals[calIndex (c.used r)], hg0, hg, hf, ?_⟩
  rw [CalBlock.convert, List.getElem?_eq_getElem hi, Option.getD_some]

theorem CalBlock.convert_used_bounds {c : CalBlock} (h : c.inRange = true) (r : Nat) :
    0 ≤ c.convert (c.used r) ∧ c.convert (c.used r) ≤ 101999998 := by
  obtain ⟨v, hg0, hg, hf, hv⟩ := CalBlock.convert_used h r
  have hd : calOffset (c.used r) ≤ 999999 := Nat.le_of_lt_succ (Nat.mod_lt _ (by decide))
  have hp : calOffset (c.used r) * v.f ≤ 999999 * 2147483648 := Nat.mul_le_mul hd hf
  have hlo := roundDiv_nonneg (a := (calOffset (c.used r) : Int) * (v.f : Int)) (by positivity) 1073741824
  have hhi := roundDiv_le (a := (calOffset (c.used r) : Int) * (v.f : Int)) (b := 1073741824) (m := 1999998) (by decide)
    (by rw [← Nat.cast_mul]; omega)
  rw [hv]
  omega

/-! ## A sample's live reading -/

/-- The corrected value of a live reading lies in the range of R34. -/
theorem State.liveOf_v_bounds {s : State} (h : s.store.work.inRange) (seq r : Nat) (tx ty dT : Int) (locked : Bool)
    {tide : TideTerm} (ht : -4000 ≤ tide.tidec ∧ tide.tidec ≤ 4000) :
    -1004000 ≤ (s.liveOf seq r tx ty dT locked tide).v ∧ (s.liveOf seq r tx ty dT locked tide).v ≤ 104003998 := by
  obtain ⟨hcal, -⟩ := h
  have hc := CalBlock.convert_used_bounds hcal r
  have htilt := tiltTerm_bounds (tx - s.store.work.sensor.ox) (ty - s.store.work.sensor.oy) s.store.work.sensor.kt
  have htemp := tempTerm_bounds (filterStep s.chain.tf s.chain.primed dT s.store.work.sensor.shift) s.store.work.sensor.tc
  simp only [State.liveOf]
  omega

/-! ## What a taken SAMPLE leaves in the chain (R16) -/

/-- A reported loss moves the lost-sample count alone, so the filter stands (R18). -/
theorem State.takeSequence_filter (s : State) (q : Nat) :
    (s.takeSequence q).chain.tf = s.chain.tf ∧ (s.takeSequence q).chain.primed = s.chain.primed := by
  unfold State.takeSequence State.reportLoss
  dsimp only
  split_ifs <;> simp

/-- Stage 1 of a sample touches nothing that the later stages correct it with. -/
theorem State.liveOf_takeSequence (s : State) (q seq r : Nat) (tx ty dT : Int) (locked : Bool) (tide : TideTerm) :
    (s.takeSequence q).liveOf seq r tx ty dT locked tide = s.liveOf seq r tx ty dT locked tide := by
  obtain ⟨htf, hprimed⟩ := s.takeSequence_filter q
  simp [State.liveOf, htf, hprimed]

@[simp] theorem State.holdAnswer_chain (s : State) (p : Port) (r : Req) (a : Option Response) :
    (s.holdAnswer p r a).chain = s.chain := by
  cases p <;> cases a <;> rfl

/-- Taking a request touches neither the chain nor the constants nor the clock. -/
theorem State.liveOf_opened (s : State) (p : Port) (seq r : Nat) (tx ty dT : Int) (locked : Bool) (tide : TideTerm) :
    (s.opened p).liveOf seq r tx ty dT locked tide = s.liveOf seq r tx ty dT locked tide := by cases p <;> rfl

@[simp] theorem State.opened_chain (s : State) (p : Port) : (s.opened p).chain = s.chain := by cases p <;> rfl

@[simp] theorem State.opened_store (s : State) (p : Port) : (s.opened p).store = s.store := by cases p <;> rfl

/-- Stages 2 to 8 step the filter and replace the live reading, CURRENT (R29, R36). -/
@[simp] theorem State.correctSample_chain (s : State) (l : Live) (c : Option CacheEntry) :
    (s.correctSample l c).chain =
      { s.chain with
        tf := filterStep s.chain.tf s.chain.primed l.dT s.store.work.sensor.shift
        primed := true, live := some l, stale := false } := rfl

@[simp] theorem State.liveOf_dT (s : State) (seq r : Nat) (tx ty dT : Int) (locked : Bool) (tide : TideTerm) :
    (s.liveOf seq r tx ty dT locked tide).dT = dT := rfl

/-- A SAMPLE that its port takes leaves the filter stepped by its temperature, and as the live reading the one that its fields
give with the tide evaluated after stage 1 (R16, R29, R36). -/
theorem exec_sample {s : State} (h : s.portReady .meter 12 = true) (seq : Byte) (r : U32) (tx ty dT : U16) (flags : Byte) :
    ∃ t, exec (.sample .meter seq r tx ty dT flags) s = .next t ∧
      t.chain.tf = filterStep s.chain.tf s.chain.primed (sampleField dT) s.store.work.sensor.shift ∧
      t.chain.live = some (s.liveOf seq.toNat r.toNat (sampleField tx) (sampleField ty) (sampleField dT) (!notLocked flags)
        ((s.opened .meter).takeSequence seq.toNat).tideNow) := by
  obtain ⟨htf, hprimed⟩ := (s.opened .meter).takeSequence_filter seq.toNat
  refine ⟨_, exec_ready rfl h, ?_, ?_⟩
  · simp [operationOf, opSample, htf, hprimed]
  · simp [operationOf, opSample, State.liveOf_takeSequence, State.liveOf_opened]

/-- Settles O20: each figure is a field of the live reading that `exec_sample` gives, and v is within its range because each of
its four terms is. -/
theorem sampleTermsFollowTheirRules : Obligations.SampleTermsFollowTheirRules := by
  intro s seq r tx ty dT flags hready hrange
  obtain ⟨t, hexec, htf, hlive⟩ := exec_sample hready seq r tx ty dT flags
  have ⟨_, hsensor, _⟩ := hrange
  obtain ⟨hox, hoy⟩ := SensorBlock.offsets_of_inRange hsensor
  obtain ⟨hvlo, hvhi⟩ := State.liveOf_v_bounds hrange seq.toNat r.toNat (sampleField tx) (sampleField ty) (sampleField dT)
    (!notLocked flags) (tide := ((s.opened .meter).takeSequence seq.toNat).tideNow) (tideTerm_bounds ..)
  refine ⟨t, _, hexec, hlive, rfl, rfl, natAbs_residual_le tx hox, natAbs_residual_le ty hoy, tiltExceeds_iff .., ?_, ?_, ?_, ?_,
    rfl, hvlo, hvhi, rfl⟩
  · rw [htf]
    rfl
  · intro htc
    simp only [State.liveOf, htc, tempTerm_zero]
  · intro htc htf0
    rw [htf] at htf0
    exact tempTerm_nonpos htc.le htf0.le
  · intro hprimed
    rw [htf, hprimed, filterStep_unprimed]

end Sys2Proof.Machine

/-! SUPPORT. The evaluation of the tide (Chapter 3): the entry it uses, its two outcomes, and the clamp's flag. -/

namespace Sys2Proof.Machine

/-! ## The clamp's flag (R5, R58) -/

/-- A clamp replaces exactly the values outside its range. -/
theorem clampInt_ne_iff (lo hi x : Int) : clampInt lo hi x ≠ x ↔ x < lo ∨ hi < x := by
  unfold clampInt
  split_ifs <;> omega

/-! ## The latitude-factor cache (R51, R52) -/

/-- The entry used for a position is the one formed from it, cached or not, so long as a cached entry is formed from its key. -/
theorem cachedEntry_eq_formEntry {cache : Option CacheEntry} (h : ∀ c, cache = some c → c = formEntry c.key) (p : Position) :
    cachedEntry cache p = formEntry p := by
  cases cache with
  | none => rfl
  | some e =>
    rw [cachedEntry]
    split_ifs with hkey
    · rw [h e rfl, hkey]
    · rfl

/-- Species 0 and 1 have the long-period and the diurnal factor, any other the semidiurnal one (R51). -/
theorem CacheEntry.factor_eq (e : CacheEntry) (species : Nat) :
    e.factor species = if species = 0 then e.l0 else if species = 1 then e.l1 else e.l2 := by
  match species with
  | 0 | 1 | _ + 2 => rfl

/-! ## The two outcomes of an evaluation (R55, R58) -/

/-- A condition of R55 ends the evaluation before any constituent, with the flags of those that hold. -/
theorem tideTerm_of_ended {b : TideBlock} {pos : Option Position} {isSet : Bool}
    (h : b.enabled = false ∨ b.m = 0 ∨ isSet = false ∨ pos = none) (cache : Option CacheEntry) (t : Nat) :
    tideTerm b cache pos isSet t =
      { tidec := 0
        flags := { SampleFlags.clear with
          tideOff := !b.enabled || decide (b.m = 0), noClock := !isSet, noPos := pos.isNone }
        cache := cache } := by
  unfold tideTerm
  dsimp only
  split
  next hon =>
    simp only [Bool.or_eq_false_iff, Bool.not_eq_false', decide_eq_false_iff_not] at hon
    simp [hon] at h
  next => rfl

/-- Otherwise tidec is the clamped sum with the entry of the position, and that entry is what the cache holds after it. -/
theorem tideTerm_of_evaluated {b : TideBlock} (hon : b.enabled = true) (hm : b.m ≠ 0) (cache : Option CacheEntry)
    (p : Position) (t : Nat) :
    tideTerm b cache (some p) true t =
      { tidec := clampInt (-4000) 4000 (b.rawTide (cachedEntry cache p) t)
        flags := { SampleFlags.clear with
          tideClamp :=
            decide (clampInt (-4000) 4000 (b.rawTide (cachedEntry cache p) t) ≠ b.rawTide (cachedEntry cache p) t) }
        cache := some (cachedEntry cache p) } := by
  simp [tideTerm, hon, hm]

/-- Settles O24: the evaluation has the outcome of `tideTerm_of_ended` or that of `tideTerm_of_evaluated`; in the latter the entry
is the one formed from the position, whose angles and factors are those of R48 and R51. -/
theorem tideEvaluation : Obligations.TideEvaluation := by
  intro b cache pos isSet t e
  refine ⟨fun hended => ?_, ?_⟩
  · have he : e = _ := tideTerm_of_ended hended cache t
    rw [he]
    simp [SampleFlags.clear]
  · rintro p hon hm rfl rfl hcache
    intro lam phi sinPhi cosPhi factor sum raw
    have hlam : (formEntry p).lam = lam := rfl
    have hfactor : (formEntry p).factor = factor := by
      funext species
      simp only [CacheEntry.factor_eq, formEntry, factor0, factor1, factor2, sinOf, cosOf, cosIndex]
      rfl
    have hsum : b.sumT (formEntry p) t = sum := by
      simp only [TideBlock.sumT, Constituent.term, Constituent.phase, cosIndex, hlam, hfactor, sum, Nat.reducePow]
    have hraw : b.rawTide (cachedEntry cache p) t = raw := by
      rw [cachedEntry_eq_formEntry hcache, TideBlock.rawTide, hsum]
    have he : e = _ := tideTerm_of_evaluated hon hm cache p t
    rw [he, hraw, cachedEntry_eq_formEntry hcache]
    exact ⟨rfl, decide_eq_true_iff.trans (clampInt_ne_iff _ _ raw), rfl, rfl, rfl, formEntry p, rfl, rfl, rfl, rfl⟩

end Sys2Proof.Machine

/-! SUPPORT. What STATUS reads from the log and from the constants store (R104, R146, R163); the statements on the station log. -/

namespace Sys2Proof.Machine

/-! ## The oldest and the newest record (R87, R88, R104) -/

/-- A record's sequence number, or 0 where there is none, by the two cases. -/
theorem map_seq_getD_zero (o : Option Record) : (o.map (·.seq)).getD 0 = match o with | some r => r.seq | none => 0 := by
  cases o <;> rfl

/-- In a log's form the oldest record lies as far below the counter as there are records. -/
theorem Log.wf.oldestSeq_eq {l : Log} (h : l.wf) (hne : l.records ≠ []) :
    oldestSeq l.records = l.counter - l.records.length := by
  obtain ⟨-, -, -, hrun⟩ := h
  have hlen : l.records.length ≠ 0 := List.length_eq_zero_iff.not.2 hne
  rw [oldestSeq, ← List.head?_map, hrun, List.head?_range', if_neg hlen, Option.getD_some]

/-- In a log's form the newest record is the last of the run that starts at the oldest. -/
theorem Log.wf.newestSeq_eq {l : Log} (h : l.wf) (hne : l.records ≠ []) :
    newestSeq l.records = l.counter - l.records.length + l.records.length - 1 := by
  obtain ⟨-, -, -, hrun⟩ := h
  have hlen : l.records.length ≠ 0 := List.length_eq_zero_iff.not.2 hne
  rw [newestSeq, ← List.getLast?_map, hrun, List.getLast?_range', if_neg hlen, Option.getD_some]

/-- The count is the newest sequence number minus the oldest plus one, or all three are 0 (R104). -/
theorem Log.wf.count_oldest_newest {l : Log} (h : l.wf) :
    l.records.length = 0 ∧ oldestSeq l.records = 0 ∧ newestSeq l.records = 0 ∨
      0 < oldestSeq l.records ∧ l.records.length + oldestSeq l.records = newestSeq l.records + 1 := by
  by_cases hne : l.records = []
  · exact .inl (by simp [hne, oldestSeq, newestSeq])
  · rw [h.oldestSeq_eq hne, h.newestSeq_eq hne]
    obtain ⟨-, hlt, -, -⟩ := h
    exact .inr (by omega)

/-! ## The store's state (R146) -/

theorem PerBlock.any_eq_false_iff (m : PerBlock Bool) : m.any = false ↔ ∀ b, m.get b = false := by
  simp only [PerBlock.any, Bool.or_eq_false_iff]
  refine ⟨?_, fun h => ⟨⟨⟨⟨h .cal, h .sensor⟩, h .tide⟩, h .settle⟩, h .loop⟩⟩
  rintro ⟨⟨⟨⟨hcal, hsensor⟩, htide⟩, hsettle⟩, hloop⟩ b
  cases b <;> assumption

theorem Store.state_eq_committing_iff (t : Store) : t.state = .committing ↔ t.commit.isSome = true := by
  unfold Store.state
  split_ifs <;> simp [*]

theorem Store.state_eq_clean_iff (t : Store) : t.state = .clean ↔ t.commit = none ∧ ∀ b, t.dirty.get b = false := by
  rw [← PerBlock.any_eq_false_iff, ← Option.not_isSome_iff_eq_none]
  unfold Store.state
  split_ifs <;> simp [*]

/-! ## STATUS (R104) -/

/-- Taking a request touches nothing that STATUS reports. -/
@[simp] theorem State.opened_statusReport (s : State) (p : Port) : (s.opened p).statusReport = s.statusReport := by
  cases p <;> rfl

/-- STATUS, taken during start-up too (R144), is answered with the report of the state it finds, which stands. -/
theorem exec_status {s : State} {p : Port} (h : s.portOpen p (encodePayload (.status p)).length = true) :
    exec (.status p) s = .next (s.replied p .status (okAnswer (.status s.statusReport))) := by
  have hop : operationOf (.status p) (s.opened p) = (s.opened p, some (okAnswer (.status s.statusReport))) := by
    simp [operationOf, opStatus, accept, okAnswer]
  have halways : (Instr.status p).alwaysTaken = true := rfl
  rw [exec_request rfl (State.portOpen_hunt h), State.take_open _ h (.inr halways), hop, State.opened_holdAnswer]

/-- Settles O9: `exec_status` gives the report; in the log's form its three figures are tied by `Log.wf.count_oldest_newest`. -/
theorem statusReportsTheState : Obligations.StatusReportsTheState := by
  intro s p h
  exact ⟨s.statusReport, exec_status h, rfl, map_seq_getD_zero _, map_seq_getD_zero _,
    fun hwf => ⟨hwf.1, hwf.count_oldest_newest⟩, rfl, rfl, rfl, rfl, rfl, rfl, rfl, rfl, rfl, rfl, rfl,
    s.store.state_eq_committing_iff, s.store.state_eq_clean_iff⟩

end Sys2Proof.Machine

/-! SUPPORT. What begins a restart and what its stage 1 makes of the retained domain (R138, R141); its stages, and the survey state that
stage 4 sets (R139, R142). -/

namespace Sys2Proof.Machine

/-! ## Stage 1 on the retained domain (R140, R141) -/

/-- The retained domain of `s` after stage 1 with a cause that keeps it: only the ACTIVE record and the last restart cause differ. -/
def State.RetainedKept (s t : State) (c : Cause) : Prop :=
  t.clock = s.clock ∧ t.survey = { s.survey with lastCause := c } ∧ t.bases = s.bases ∧ t.loop = s.loop ∧
    t.queue = s.queue ∧ t.mark = s.mark ∧
    t.log = { s.log with records := s.log.records.map (abandonRecord s.clock.value c.endCause) }

/-- The retained domain after stage 1 with POWER_LOST: cleared, the retention mark written. -/
def State.RetainedLost (t : State) : Prop :=
  t.clock = .lost ∧ t.log = .lost ∧ t.bases = [] ∧ t.loop = .lost ∧ t.queue = [] ∧ t.mark = true ∧ t.survey = .lost

theorem State.beginRestart_retainedKept (s : State) {c : Cause} (h : c ≠ .powerLost) :
    s.RetainedKept (s.beginRestart c) c := by
  obtain ⟨hclock, hbases, hloop, hqueue, hmark, hsurvey, hlog⟩ := s.beginRestart_kept h
  exact ⟨hclock, hsurvey, hbases, hloop, hqueue, hmark, hlog⟩

theorem State.beginRestart_retainedLost (s : State) : (s.beginRestart .powerLost).RetainedLost :=
  ⟨rfl, rfl, rfl, rfl, rfl, rfl, rfl⟩

/-- Taking a request touches the port alone, so a restart from there keeps what stood before. -/
theorem State.retainedKept_opened_iff (s t : State) (p : Port) (c : Cause) :
    (s.opened p).RetainedKept t c ↔ s.RetainedKept t c := by cases p <;> exact Iff.rfl

/-- The supplies are no part of the retained domain. -/
theorem State.retainedKept_setSupply_iff (s t : State) (x : Supply) (c : Cause) :
    (s.setSupply x).RetainedKept t c ↔ s.RetainedKept t c := Iff.rfl

/-! ## What begins a restart, and its cause (R138) -/

theorem State.powerCause_of_mark {s : State} (h : s.mark = true) : s.powerCause = .powerRetained := if_pos h

theorem State.powerCause_of_noMark {s : State} (h : s.mark = false) : s.powerCause = .powerLost := by
  rw [State.powerCause, h, if_neg Bool.false_ne_true]

/-- VDD rises with RESETn high. -/
theorem exec_vddRise_restarts {s : State} (hv : s.supply.vdd = false) (hl : s.supply.resetLow = false) :
    exec .vddRise s = .next ((s.setSupply { s.supply with vdd := true }).beginRestart s.powerCause) := by
  have hexec : exec .vddRise s = .next (if s.supply.vdd then s else s.vddRises) := rfl
  rw [hexec, hv, if_neg Bool.false_ne_true, State.vddRises, hl]
  rfl

/-- RESETn is released with VDD present. -/
theorem exec_resetnRelease_restarts {s : State} (hv : s.supply.vdd = true) (hl : s.supply.resetLow = true) :
    exec .resetnRelease s =
      .next ((s.setSupply { s.supply with resetLow := false }).beginRestart
        (if s.supply.restartDue then s.powerCause else .resetLine)) := by
  have hexec : exec .resetnRelease s = .next (if s.supply.resetLow then s.resetReleases else s) := rfl
  rw [hexec, hl, if_pos rfl, State.resetReleases, hv]
  rfl

/-- A SOFT RESET that its port takes begins a restart, and the request has no response. -/
theorem exec_softReset_restarts {s : State} {p : Port} (h : s.portReady p 0 = true) :
    exec (.softReset p) s = .next ((s.opened p).beginRestart .soft) := by
  rw [exec_ready (i := .softReset p) rfl h]
  cases p <;> rfl

/-- Settles O46: every restart begins with `State.beginRestart`, and its cause decides between `State.beginRestart_retainedKept` and
`State.beginRestart_retainedLost`. -/
theorem restartOnTheRetainedDomain : Obligations.RestartOnTheRetainedDomain := by
  intro s p keptAt kept lost
  have hkept (x : Supply) {c : Cause} (hc : c ≠ .powerLost) : s.RetainedKept ((s.setSupply x).beginRestart c) c :=
    (s.retainedKept_setSupply_iff _ x c).1 (State.beginRestart_retainedKept _ hc)
  refine ⟨fun hv hl hm => ?lostOnRise, fun hv hl hm => ?keptOnRise, fun hv hl hd => ?resetLine, fun hp => ?soft,
    fun hv hl hd => ?delayed⟩
  case lostOnRise =>
    rw [exec_vddRise_restarts hv hl, State.powerCause_of_noMark hm]
    exact ⟨_, rfl, State.beginRestart_retainedLost _⟩
  case keptOnRise =>
    rw [exec_vddRise_restarts hv hl, State.powerCause_of_mark hm]
    exact ⟨_, rfl, hkept _ (by decide)⟩
  case resetLine =>
    rw [exec_resetnRelease_restarts hv hl, hd, if_neg Bool.false_ne_true]
    exact ⟨_, rfl, hkept _ (by decide)⟩
  case soft =>
    exact ⟨_, exec_softReset_restarts hp, (s.retainedKept_opened_iff _ p _).1 (State.beginRestart_retainedKept _ (by decide))⟩
  case delayed =>
    rw [exec_resetnRelease_restarts hv hl, hd, if_pos rfl]
    refine ⟨_, rfl, fun hm => ?_, fun hm => ⟨s.clock.value, ?_⟩⟩
    · rw [State.powerCause_of_noMark hm]
      exact State.beginRestart_retainedLost _
    · rw [State.powerCause_of_mark hm]
      exact hkept _ (by decide)

/-! ## The stages of a restart (R139) -/

/-- With VDD present and RESETn high the next stage is taken. -/
theorem exec_startUpStage_takes {s : State} (hv : s.supply.vdd = true) (hl : s.supply.resetLow = false) (baudsel : Bool) :
    exec (.startUpStage baudsel) s = .next (s.takeStage baudsel) := by
  have hr : s.receiving = true := by simp [State.receiving, hv, hl]
  have hexec : exec (.startUpStage baudsel) s = .next (if s.receiving then s.takeStage baudsel else s) := rfl
  rw [hexec, if_pos hr]

/-- Stage 4 replaces the survey state alone and leaves stage 5 to be taken. -/
theorem State.takeStage_surveyState {s : State} (h : s.startUp = some .surveyState) (baudsel : Bool) :
    s.takeStage baudsel =
      { s with
        survey := { s.survey with state := restartedState s.survey.lastCause s.survey.state s.noneDefaulted }
        startUp := some .finish } := by
  rw [State.takeStage, h]
  rfl

/-! ## The survey state after a restart (R142) -/

theorem restartedState_powerLost (found : SurveyState) (noneDefaulted : Bool) :
    restartedState .powerLost found noneDefaulted = .unset := rfl

/-- The three causes that keep the retained domain treat the state found alike. -/
theorem restartedState_eq_soft {c : Cause} (h : c ≠ .powerLost) (found : SurveyState) (noneDefaulted : Bool) :
    restartedState c found noneDefaulted = restartedState .soft found noneDefaulted := by
  cases c with
  | powerLost => exact absurd rfl h
  | powerRetained | resetLine | soft => cases found <;> rfl

theorem State.noneDefaulted_iff (s : State) : s.noneDefaulted = true ↔ ∀ b, s.store.defaulted.get b = false := by
  rw [State.noneDefaulted, Bool.not_eq_true', PerBlock.any_eq_false_iff]

theorem State.noneDefaulted_eq_false_iff (s : State) :
    s.noneDefaulted = false ↔ ∃ b, s.store.defaulted.get b = true := by
  simp [← Bool.not_eq_true, State.noneDefaulted_iff]

/-- Settles O49: stage 4 sets what `restartedState` gives, so each row of R142's table is a value of that function. -/
theorem surveyStateAfterRestart : Obligations.SurveyStateAfterRestart := by
  intro s baudsel hv hl hstage becomes
  have hbecomes {x : SurveyState} (h : restartedState s.survey.lastCause s.survey.state s.noneDefaulted = x) : becomes x := by
    simp only [becomes, exec_startUpStage_takes hv hl, State.takeStage_surveyState hstage, h]
  refine ⟨fun hc => hbecomes ?_, fun hc => ?_⟩
  · rw [hc, restartedState_powerLost]
  · rw [restartedState_eq_soft hc] at hbecomes
    exact ⟨fun hx => hbecomes (by rw [hx]; rfl),
      fun hx hnone => hbecomes (by rw [hx, s.noneDefaulted_iff.2 hnone]; rfl),
      fun hx hsome => hbecomes (by rw [hx, s.noneDefaulted_eq_false_iff.2 hsome]; rfl),
      fun hx => hbecomes (by rw [hx]; rfl), fun hx => hbecomes (by rw [hx]; rfl)⟩

end Sys2Proof.Machine

/-! SUPPORT. What READ ITEM finds in the working copy (R149), by the item it names (R163); the statements on the constants store. -/

namespace Sys2Proof.Machine

/-! ## The items of a set of constants (R149, R163) -/

section
variable (c : Constants)

/-- CAL's items: the header and the intervals. -/
theorem Constants.read_cal (i : Byte) :
    c.read 1 i =
      if i = headerItem then some (.calHeader c.cal.n c.cal.tol)
      else if i.toNat < 80 then (c.cal.intervals[i.toNat]?).map .calInterval
      else none := rfl

/-- TIDE's items: the header and the constituents. -/
theorem Constants.read_tide (i : Byte) :
    c.read 3 i =
      if i = headerItem then some (.tideHeader c.tide.m c.tide.enabled c.tide.delta)
      else if i.toNat < 16 then (c.tide.parts[i.toNat]?).map .constituent
      else none := rfl

theorem Constants.read_calHeader : c.read 1 headerItem = some (.calHeader c.cal.n c.cal.tol) := rfl

theorem Constants.read_sensor : c.read 2 0 = some (.sensor c.sensor) := rfl

theorem Constants.read_tideHeader : c.read 3 headerItem = some (.tideHeader c.tide.m c.tide.enabled c.tide.delta) := rfl

theorem Constants.read_settle : c.read 4 0 = some (.settle c.settle) := rfl

theorem Constants.read_loop : c.read 5 0 = some (.loop c.loop) := rfl

end

theorem itemLength_cal (i : Byte) :
    itemLength 1 i = if i = headerItem then some 4 else if i.toNat < 80 then some 8 else none := rfl

theorem itemLength_tide (i : Byte) :
    itemLength 3 i = if i = headerItem then some 4 else if i.toNat < 16 then some 12 else none := rfl

/-- An item number below a table's length is not the header's. -/
theorem ne_headerItem_of_lt {i : Byte} {n : Nat} (hi : i.toNat < n) (hn : n ≤ 255) : i ≠ headerItem := by
  rintro rfl
  exact absurd hi (Nat.not_lt.2 hn)

theorem Constants.read_calInterval {c : Constants} {i : Byte} {v : Interval} (hi : i.toNat < 80)
    (hv : c.cal.intervals[i.toNat]? = some v) : c.read 1 i = some (.calInterval v) := by
  rw [Constants.read_cal, if_neg (ne_headerItem_of_lt hi (by decide)), if_pos hi, hv, Option.map_some]

theorem Constants.read_constituent {c : Constants} {i : Byte} {v : Constituent} (hi : i.toNat < 16)
    (hv : c.tide.parts[i.toNat]? = some v) : c.read 3 i = some (.constituent v) := by
  rw [Constants.read_tide, if_neg (ne_headerItem_of_lt hi (by decide)), if_pos hi, hv, Option.map_some]

/-- Each block has one number (R163). -/
theorem eq_blockNumber_of_blockOf {b : Byte} {block : Block} (h : blockOf b = some block) : b = blockNumber block := by
  unfold blockOf at h
  split at h <;> cases h <;> exact BitVec.eq_of_toNat_eq ‹_›

theorem Constants.read_of_blockOf_none {b : Byte} (h : blockOf b = none) (c : Constants) (i : Byte) : c.read b i = none := by
  rw [Constants.read, h]

/-- An item that has no length does not exist (R163), so no set of constants holds it. -/
theorem Constants.read_eq_none {b i : Byte} (h : itemLength b i = none) (c : Constants) : c.read b i = none := by
  cases hb : blockOf b with
  | none => exact Constants.read_of_blockOf_none hb c i
  | some block =>
    obtain rfl := eq_blockNumber_of_blockOf hb
    cases block with
    | cal =>
      rw [blockNumber, itemLength_cal] at h
      split_ifs at h with hheader hnumber
      rw [blockNumber, Constants.read_cal, if_neg hheader, if_neg hnumber]
    | tide =>
      rw [blockNumber, itemLength_tide] at h
      split_ifs at h with hheader hnumber
      rw [blockNumber, Constants.read_tide, if_neg hheader, if_neg hnumber]
    | sensor | settle | loop =>
      have hzero : i ≠ 0 := fun hzero => Option.some_ne_none _ ((if_pos hzero).symm.trans h)
      exact if_neg hzero

/-! ## READ ITEM (R149) -/

/-- An item that the working copy holds is answered with its block's marks. -/
theorem opReadItem_held {s : State} {b i : Byte} {block : Block} {v : ItemValue} (hb : blockOf b = some block)
    (hv : s.store.work.read b i = some v) :
    opReadItem b i s =
      (s, some (okAnswer (.item b i (s.store.dirty.get block) (s.store.defaulted.get block) v))) := by
  rw [opReadItem, hb, hv]
  rfl

theorem opReadItem_absent {s : State} {b i : Byte} (h : s.store.work.read b i = none) :
    opReadItem b i s = (s, some (refusal .range)) := by
  rw [opReadItem, h]
  cases blockOf b <;> rfl

theorem exec_readItem_held {s : State} {p : Port} {b i : Byte} {block : Block} {v : ItemValue}
    (h : s.portReady p 2 = true) (hb : blockOf b = some block) (hv : s.store.work.read b i = some v) :
    exec (.readItem p b i) s =
      .next (s.replied p .readItem
        (okAnswer (.item b i (s.store.dirty.get block) (s.store.defaulted.get block) v))) :=
  exec_ready_replied rfl h <| by
    have hop := opReadItem_held (s := s.opened p) hb (by rwa [State.opened_store])
    rwa [State.opened_store] at hop

theorem exec_readItem_absent {s : State} {p : Port} {b i : Byte} (h : s.portReady p 2 = true)
    (hv : s.store.work.read b i = none) :
    exec (.readItem p b i) s = .next (s.replied p .readItem (refusal .range)) :=
  exec_ready_replied rfl h (opReadItem_absent (by rwa [State.opened_store]))

/-- Settles O10: the answer is decided by `Constants.read`, which has an equation for each item that exists and is none for the others;
in start-up the port answers BUSY at once. -/
theorem readItemReturnsTheItem : Obligations.ReadItemReturnsTheItem := by
  refine ⟨fun s p b i h hu => ⟨true, exec_startUp_busy rfl rfl h hu⟩, fun s p b i h => ?_⟩
  intro k answer
  have held {block : Block} {v : ItemValue} (hb : blockOf b = some block) (hv : k.read b i = some v) : answer block v :=
    exec_readItem_held h hb hv
  refine ⟨?calHeader, ?calInterval, ?sensor, ?tideHeader, ?constituent, ?settle, ?loop, ?absent⟩
  case calHeader => rintro rfl rfl; exact held rfl k.read_calHeader
  case calInterval => rintro rfl v hi hv; exact held rfl (Constants.read_calInterval hi hv)
  case sensor => rintro rfl rfl; exact held rfl k.read_sensor
  case tideHeader => rintro rfl rfl; exact held rfl k.read_tideHeader
  case constituent => rintro rfl v hi hv; exact held rfl (Constants.read_constituent hi hv)
  case settle => rintro rfl rfl; exact held rfl k.read_settle
  case loop => rintro rfl rfl; exact held rfl k.read_loop
  case absent => exact fun habsent => exec_readItem_absent h (Constants.read_eq_none (Option.isNone_iff_eq_none.1 habsent) k)

end Sys2Proof.Machine

/-! SUPPORT. What every step keeps of the clock, the base table, the event sets, the latitude-factor cache and the quiet window. -/

namespace Sys2Proof.Machine

/-! ## The command of a request code

Each request code is that of one constructor, which an induction over the commands recovers from the code. -/

section
variable {i : Instr} {p : Port}

theorem eq_sample_of_request (h : i.request = some (p, .sample)) : ∃ q r tx ty dT f, i = .sample p q r tx ty dT f := by
  cases i <;> cases h
  exact ⟨_, _, _, _, _, _, rfl⟩

theorem eq_setClock_of_request (h : i.request = some (p, .setClock)) : ∃ v, i = .setClock p v := by
  cases i <;> cases h
  exact ⟨_, rfl⟩

theorem eq_writeItem_of_request (h : i.request = some (p, .writeItem)) : ∃ w, i = .writeItem p w := by
  cases i <;> cases h
  exact ⟨_, rfl⟩

theorem eq_commit_of_request (h : i.request = some (p, .commit)) : i = .commit p := by
  cases i <;> cases h
  rfl

theorem eq_discard_of_request (h : i.request = some (p, .discard)) : i = .discard p := by
  cases i <;> cases h
  rfl

theorem eq_openSurvey_of_request (h : i.request = some (p, .openSurvey)) : ∃ n id step, i = .openSurvey p n id step := by
  cases i <;> cases h
  exact ⟨_, _, _, rfl⟩

theorem eq_closeSurvey_of_request (h : i.request = some (p, .closeSurvey)) : i = .closeSurvey p := by
  cases i <;> cases h
  rfl

theorem eq_resume_of_request (h : i.request = some (p, .resume)) : i = .resume p := by
  cases i <;> cases h
  rfl

theorem eq_setLine_of_request (h : i.request = some (p, .setLine)) : ∃ id step, i = .setLine p id step := by
  cases i <;> cases h
  exact ⟨_, _, rfl⟩

theorem eq_occupy_of_request (h : i.request = some (p, .occupy)) : ∃ k id lat lon, i = .occupy p k id lat lon := by
  cases i <;> cases h
  exact ⟨_, _, _, _, rfl⟩

theorem eq_occupyNext_of_request (h : i.request = some (p, .occupyNext)) : i = .occupyNext p := by
  cases i <;> cases h
  rfl

theorem eq_endOccupation_of_request (h : i.request = some (p, .endOccupation)) : i = .endOccupation p := by
  cases i <;> cases h
  rfl

theorem eq_abandon_of_request (h : i.request = some (p, .abandon)) : i = .abandon p := by
  cases i <;> cases h
  rfl

theorem eq_purge_of_request (h : i.request = some (p, .purge)) : ∃ q, i = .purge p q := by
  cases i <;> cases h
  exact ⟨_, rfl⟩

theorem eq_loadBase_of_request (h : i.request = some (p, .loadBase)) : ∃ id v, i = .loadBase p id v := by
  cases i <;> cases h
  exact ⟨_, _, rfl⟩

theorem eq_dropBase_of_request (h : i.request = some (p, .dropBase)) : ∃ id, i = .dropBase p id := by
  cases i <;> cases h
  exact ⟨_, rfl⟩

theorem eq_softReset_of_request (h : i.request = some (p, .softReset)) : i = .softReset p := by
  cases i <;> cases h
  rfl

end

/-! ## The survey clock (R7, R11, R14) -/

theorem State.clockInv_congr {s t : State} (hc : t.clock = s.clock) (hm : t.mark = s.mark) (h : s.clockInv) : t.clockInv := by
  unfold State.clockInv at h ⊢
  rwa [hc, hm]

@[simp] theorem State.clockSetTo_clock (s : State) (v : Nat) :
    (s.clockSetTo v).clock = { value := v, isSet := true, divider := 0 } := by
  simp [State.clockSetTo]

@[simp] theorem State.boundary_clock (s : State) : s.boundary.clock = s.clock.second := by
  unfold State.boundary
  dsimp only
  split <;> simp

/-- Where VDD's fall leaves the retention mark, VBAK holds the clock (R137). -/
theorem State.vddFalls_clock {s : State} {b : Bool} (h : (s.vddFalls b).mark = true) :
    (s.vddFalls b).clock = s.clock ∧ (s.vddFalls b).mark = s.mark := by
  cases b with
  | true => exact ⟨rfl, rfl⟩
  | false => cases h

/-- Where VBAK's failure leaves the retention mark, VDD feeds the clock (R7, R137). -/
theorem State.vbakFails_clock {s : State} (h : s.vbakFails.mark = true) :
    s.vbakFails.clock = s.clock ∧ s.vbakFails.mark = s.mark := by
  unfold State.vbakFails at h ⊢
  dsimp only at h ⊢
  split at h
  next hv => simp [hv]
  next => cases h

theorem opSetClock_clock (p : Port) (v : U32) (s : State) :
    (opSetClock p v s).1.clock = s.clock ∨
      (opSetClock p v s).1.clock = { value := v.toNat, isSet := true, divider := 0 } := by
  unfold opSetClock
  split
  · exact .inl rfl
  · split
    · exact .inl rfl
    · exact .inr (by simp)

theorem keeps_clockInv : Keeps State.clockInv where
  ports := by
    rintro s t ⟨_, _, _, _, _, _, _, _, rfl⟩ h
    exact h
  request := by
    intro i p r s hi _ _ _ h
    by_cases hr : r = .setClock
    · subst hr
      obtain ⟨v, rfl⟩ := eq_setClock_of_request hi
      rcases opSetClock_clock p v s with hc | hc
      · exact State.clockInv_congr hc (by simp [operationOf]) h
      · intro _
        have hlt := v.isLt
        simp only [operationOf, hc]
        exact ⟨by simp, by omega, by omega⟩
    · exact State.clockInv_congr (operationOf_clock hi hr) (operationOf_mark hi) h
  boundary := by
    intro s hk h hm
    obtain ⟨-, hv, -⟩ := h (by simpa using hm)
    simp only [State.clockRuns, Bool.and_eq_true] at hk
    rw [State.boundary_clock]
    refine ⟨fun hu => ?_, ?_, Nat.zero_lt_succ _⟩
    · rw [Clock.second, hk.1] at hu
      cases hu
    · simp only [Clock.second]
      split <;> omega
  tick := by
    intro s hk hd h hm
    obtain ⟨-, hv, -⟩ := h hm
    simp only [State.clockRuns, Bool.and_eq_true] at hk
    exact ⟨fun hu => by simp [hk.1] at hu, hv, hd⟩
  closure := fun _ _ => State.clockInv_congr (by simp) (by simp)
  block := fun _ => State.clockInv_congr (by simp) (by simp)
  digest := fun _ _ h => h
  restart := by
    intro s x c _ _ _ h
    by_cases hc : c = .powerLost
    · subst hc
      exact fun _ => ⟨fun _ => ⟨rfl, rfl⟩, Nat.zero_le _, Nat.zero_lt_succ _⟩
    · obtain ⟨hclock, -, -, -, hmark, -, -⟩ := (s.setSupply x).beginRestart_kept hc
      exact State.clockInv_congr hclock hmark h
  delay := fun _ _ h => h
  fall := fun _ h hm =>
    State.clockInv_congr (State.vddFalls_clock hm).1 (State.vddFalls_clock hm).2 h hm
  vbak := fun h hm => State.clockInv_congr (State.vbakFails_clock hm).1 (State.vbakFails_clock hm).2 h hm
  hold := fun h => h
  unhold := fun _ h => h
  image := fun _ h => h
  stage := fun _ => State.clockInv_congr (by simp) (by simp)

/-! ## The base table (R108 to R110) -/

/-- A table in increasing order of station id: no two entries for one id (R108). -/
def BasesOrdered (b : List BaseEntry) : Prop := b.Pairwise fun x y => x.id < y.id

theorem mem_insertBase {id : Nat} {v : Int} {b : List BaseEntry} {x : BaseEntry} (h : x ∈ insertBase id v b) :
    x = { id := id, value := v } ∨ x ∈ b := by
  induction b with
  | nil => exact .inl (List.mem_singleton.1 h)
  | cons e rest ih =>
    rw [insertBase] at h
    split_ifs at h
    · exact List.mem_cons.1 h
    · exact (List.mem_cons.1 h).imp_right (List.mem_cons_of_mem e)
    · rcases List.mem_cons.1 h with rfl | h
      · exact .inr List.mem_cons_self
      · exact (ih h).imp_right (List.mem_cons_of_mem e)

theorem BasesOrdered.insertBase {b : List BaseEntry} (h : BasesOrdered b) (id : Nat) (v : Int) :
    BasesOrdered (insertBase id v b) := by
  unfold BasesOrdered at h ⊢
  induction b with
  | nil => exact List.pairwise_singleton _ _
  | cons e rest ih =>
    obtain ⟨hhead, hrest⟩ := List.pairwise_cons.1 h
    rw [Machine.insertBase]
    split_ifs with hlt heq
    · refine List.pairwise_cons.2 ⟨fun x hx => ?_, h⟩
      rcases List.mem_cons.1 hx with rfl | hx
      · exact hlt
      · exact hlt.trans (hhead x hx)
    · exact List.pairwise_cons.2 ⟨fun x hx => heq ▸ hhead x hx, hrest⟩
    · refine List.pairwise_cons.2 ⟨fun x hx => ?_, ih hrest⟩
      rcases mem_insertBase hx with rfl | hx
      · exact lt_of_le_of_ne (Nat.not_lt.1 hlt) (Ne.symm heq)
      · exact hhead x hx

/-- The first entry of an ordered table has the least id, so an id below it is not found. -/
theorem findBase_eq_none_of_lt {b : List BaseEntry} {id : Nat} (h : ∀ x ∈ b, id < x.id) : findBase b id = none := by
  simp only [findBase, List.find?_eq_none, beq_iff_eq]
  exact fun x hx => (h x hx).ne'

theorem BasesOrdered.length_insertBase {b : List BaseEntry} (h : BasesOrdered b) (id : Nat) (v : Int) :
    (Machine.insertBase id v b).length = if (findBase b id).isSome then b.length else b.length + 1 := by
  induction b with
  | nil => rfl
  | cons e rest ih =>
    obtain ⟨hhead, hrest⟩ := List.pairwise_cons.1 h
    rw [Machine.insertBase]
    rcases lt_trichotomy id e.id with hlt | rfl | hgt
    · have hnone : findBase (e :: rest) id = none := findBase_eq_none_of_lt fun x hx => by
        rcases List.mem_cons.1 hx with rfl | hx
        · exact hlt
        · exact hlt.trans (hhead x hx)
      rw [if_pos hlt, hnone]
      rfl
    · simp [findBase]
    · have hfind : findBase (e :: rest) id = findBase rest id := by simp [findBase, hgt.ne]
      rw [if_neg hgt.not_gt, if_neg hgt.ne', hfind, List.length_cons, ih hrest, List.length_cons]
      split_ifs <;> rfl

/-- The table's form (R108). -/
def BasesWf (b : List BaseEntry) : Prop :=
  b.length ≤ 24 ∧ BasesOrdered b ∧ ∀ e ∈ b, 1 ≤ e.id ∧ e.id ≤ 999999 ∧ -200000000 ≤ e.value ∧ e.value ≤ 200000000

theorem stationOk_iff (id : Nat) : stationOk id = true ↔ 1 ≤ id ∧ id ≤ 999999 := by
  rw [stationOk, Bool.and_eq_true, decide_eq_true_eq, decide_eq_true_eq, maxStation]

theorem adoptedOk_iff (v : Int) : adoptedOk v = true ↔ -200000000 ≤ v ∧ v ≤ 200000000 := by
  simp only [adoptedOk, withinInt, Bool.and_eq_true, decide_eq_true_eq]

theorem BasesWf.insertBase {b : List BaseEntry} (h : BasesWf b) {id : Nat} {v : Int} (hid : stationOk id = true)
    (hv : adoptedOk v = true) (hroom : (findBase b id).isSome = true ∨ b.length < 24) : BasesWf (insertBase id v b) := by
  obtain ⟨hlen, hord, hrange⟩ := h
  rw [stationOk_iff] at hid
  rw [adoptedOk_iff] at hv
  refine ⟨?_, hord.insertBase id v, fun e he => ?_⟩
  · rw [hord.length_insertBase]
    split_ifs with hfound
    · exact hlen
    · exact hroom.resolve_left hfound
  · rcases mem_insertBase he with rfl | he
    · exact ⟨hid.1, hid.2, hv⟩
    · exact hrange e he

theorem BasesWf.removeBase {b : List BaseEntry} (h : BasesWf b) (id : Nat) : BasesWf (removeBase id b) := by
  obtain ⟨hlen, hord, hrange⟩ := h
  exact ⟨(List.length_filter_le _ _).trans hlen, hord.filter _, fun e he => hrange e (List.mem_of_mem_filter he)⟩

theorem opLoadBase_basesWf {s : State} (h : BasesWf s.bases) (p : Port) (id v : U32) :
    BasesWf (opLoadBase p id v s).1.bases := by
  unfold opLoadBase
  split
  · exact h
  split_ifs with _ hrange hfound _ hfull
  iterate 3 exact h
  · obtain ⟨hid, hv⟩ : stationOk id.toNat = true ∧ adoptedOk v.toInt = true := by simpa using hrange
    exact h.insertBase hid hv (.inl hfound)
  · exact h
  · obtain ⟨hid, hv⟩ : stationOk id.toNat = true ∧ adoptedOk v.toInt = true := by simpa using hrange
    exact h.insertBase hid hv (.inr (Nat.not_le.1 hfull))

theorem opDropBase_basesWf {s : State} (h : BasesWf s.bases) (p : Port) (id : U32) :
    BasesWf (opDropBase p id s).1.bases := by
  unfold opDropBase
  split
  · exact h
  split_ifs
  iterate 4 exact h
  exact h.removeBase _

theorem keeps_baseInv : Keeps State.baseInv := by
  have congr {s t : State} (ht : t.bases = s.bases) (h : BasesWf s.bases) : BasesWf t.bases := ht ▸ h
  refine Keeps.whileMarked (fun s => BasesWf s.bases) ?ports ?request (congr (by simp)) id (fun _ _ => congr (by simp))
    (congr (by simp)) id ?lost ?kept id id id (congr (by simp))
  case ports =>
    rintro s t ⟨_, _, _, _, _, _, _, _, rfl⟩ h
    exact h
  case request =>
    intro i p r s hi _ _ _ h
    by_cases hload : r = .loadBase
    · subst hload
      obtain ⟨id, v, rfl⟩ := eq_loadBase_of_request hi
      exact opLoadBase_basesWf h p id v
    by_cases hdrop : r = .dropBase
    · subst hdrop
      obtain ⟨id, rfl⟩ := eq_dropBase_of_request hi
      exact opDropBase_basesWf h p id
    exact congr (operationOf_bases hi hload hdrop) h
  case lost => exact ⟨Nat.zero_le _, List.Pairwise.nil, fun _ he => nomatch he⟩
  case kept =>
    intro s x c hc h
    obtain ⟨-, hbases, -⟩ := (s.setSupply x).beginRestart_kept hc
    exact congr hbases h

end Sys2Proof.Machine

namespace Sys2Proof.Machine

/-! ## What a taken SAMPLE does to the state (R16) -/

/-- Stage 1, then the correction, then the occupation controller, with a live reading that the fields give. -/
theorem opSample_meter (s : State) (q : Byte) (r : U32) (tx ty dT : U16) (f : Byte) :
    ∃ l, (opSample .meter q r tx ty dT f s).1 =
      ((s.takeSequence q.toNat).correctSample l (s.takeSequence q.toNat).tideNow.cache).handSample l := ⟨_, rfl⟩

@[simp] theorem State.correctSample_cache (s : State) (l : Live) (c : Option CacheEntry) :
    (s.correctSample l c).cache = c := rfl

/-! ## The event sets (R163 to R165) -/

/-- No reserved bit of an event set or mask is set. -/
def State.EventsClean (s : State) : Prop := ∀ p, s.events p &&& ~~~allEvents = 0 ∧ s.mask p &&& ~~~allEvents = 0

theorem addEvent_clean {w : U16} (h : w &&& ~~~allEvents = 0) (e : Event) : addEvent e w &&& ~~~allEvents = 0 := by
  have he : e.word &&& ~~~allEvents = 0 := by cases e <;> rfl
  rw [addEvent, BitVec.and_comm, BitVec.and_or_distrib_left, BitVec.and_comm, h, BitVec.and_comm, he]
  rfl

theorem maskOf_clean (w : U16) : maskOf w &&& ~~~allEvents = 0 := by
  have hmask : allEvents &&& ~~~allEvents = 0 := rfl
  rw [maskOf, BitVec.and_assoc, hmask]
  exact BitVec.and_zero

namespace State.EventsClean

variable {s : State}

theorem of_ports {t : State} (h : s.EventsClean) (hm : t.meter = s.meter) (hu : t.uart = s.uart) : t.EventsClean := by
  intro p
  obtain ⟨he, hk⟩ := h p
  cases p <;> simp only [State.events, State.mask, hm, hu] at he hk ⊢ <;> exact ⟨he, hk⟩

theorem raise (h : s.EventsClean) (e : Event) : (s.raise e).EventsClean := by
  intro p
  obtain ⟨he, hk⟩ := h p
  rw [State.raise_events, State.raise_mask]
  exact ⟨addEvent_clean he e, hk⟩

theorem leaveUnset (h : s.EventsClean) : s.leaveUnset.EventsClean := by
  unfold State.leaveUnset
  split
  · exact (h.of_ports rfl rfl).raise _
  · exact h

theorem clockSetTo (h : s.EventsClean) (v : Nat) : (s.clockSetTo v).EventsClean := by
  rw [State.clockSetTo]
  refine leaveUnset (raise (h.of_ports ?_ ?_) _) <;> rfl

theorem takeSequence (h : s.EventsClean) (q : Nat) : (s.takeSequence q).EventsClean := by
  have hexpected : (s.setMeter { s.meter with expected := some q }).EventsClean := fun p => by
    cases p
    · exact h .meter
    · exact h .survey
  exact hexpected.of_ports (by simp [State.takeSequence]) (by simp [State.takeSequence])

theorem settlingSample (h : s.EventsClean) (q : Nat) (l : Live) : (s.settlingSample q l).EventsClean := by
  unfold State.settlingSample
  extract_lets quiet run o
  split
  · exact raise (h.of_ports rfl rfl) _
  · exact h.of_ports rfl rfl

theorem settledSample (h : s.EventsClean) (q : Nat) (l : Live) : (s.settledSample q l).EventsClean := by
  unfold State.settledSample
  extract_lets quiet window s1 o
  have hmarked : s1.EventsClean := h.of_ports (by simp [s1]) (by simp [s1])
  split
  · exact raise (hmarked.of_ports rfl rfl) _
  · exact hmarked.of_ports rfl rfl

theorem handSample (h : s.EventsClean) (l : Live) : (s.handSample l).EventsClean := by
  unfold State.handSample
  split
  · exact h
  · exact h.settlingSample _ l
  · exact h.settledSample _ l

theorem commitFrom (h : s.EventsClean) (w k : Bool) (bs : List Block) : (s.commitFrom w k bs).EventsClean := by
  induction bs generalizing s with
  | nil =>
    rw [State.commitFrom, State.commitDone]
    refine leaveUnset (raise (h.of_ports ?_ ?_) _) <;> rfl
  | cons b rest ih =>
    rw [State.commitFrom]
    split
    · exact ih (h.of_ports rfl rfl)
    · cases k <;> exact h.of_ports rfl rfl

theorem blockWritten (h : s.EventsClean) : s.blockWritten.EventsClean := by
  unfold State.blockWritten
  split
  · refine commitFrom (h.of_ports ?_ ?_) _ _ _ <;> rfl
  · exact h

theorem startOccupation (h : s.EventsClean) (p : Port) (o : Start) : (s.startOccupation p o).EventsClean := by
  have happend : (s.appendRecord (s.newRecord p o)).EventsClean := by
    unfold State.appendRecord
    dsimp only
    split
    · exact raise (h.of_ports rfl rfl) _
    · exact h.of_ports rfl rfl
  exact happend.of_ports (by simp [State.startOccupation]) (by simp [State.startOccupation])

theorem reduceEnded (h : s.EventsClean) (r : Record) : (s.reduceEnded r).EventsClean := by
  have hput (x : Record) : (s.putRecord x).EventsClean := h.of_ports rfl rfl
  unfold State.reduceEnded
  split
  · exact hput _
  split
  · split
    · exact raise (h.of_ports rfl rfl) _
    · unfold State.closingTie
      dsimp only
      split <;> exact raise (h.of_ports (by simp) (by simp)) _
  · exact hput _

theorem endAccepted (h : s.EventsClean) (p : Port) (r : Record) : (s.endAccepted p r).EventsClean :=
  of_ports (raise (h.reduceEnded (s.endedRecord p r)) .occEnded) (by simp [State.endAccepted]) (by simp [State.endAccepted])

theorem abandonAccepted (h : s.EventsClean) (p : Port) (r : Record) : (s.abandonAccepted p r).EventsClean := by
  have hput : (s.putRecord (s.abandonedRecord p r)).EventsClean := h.of_ports (by simp) (by simp)
  exact of_ports (raise hput .occAbandoned) (by simp [State.abandonAccepted]) (by simp [State.abandonAccepted])

theorem closureStep (h : s.EventsClean) : s.closureStep.EventsClean := by
  unfold State.closureStep
  split
  · split
    · exact raise (h.of_ports rfl rfl) _
    · exact h.of_ports rfl rfl
  · exact h

theorem boundary (h : s.EventsClean) : s.boundary.EventsClean := by
  have hgap {t : State} (ht : t.EventsClean) : t.countGap.EventsClean := by
    unfold State.countGap
    dsimp only
    split
    · exact ht
    split
    · split
      · exact raise (ht.of_ports (by simp) (by simp)) _
      · exact ht.of_ports rfl rfl
    · exact ht
  have hclock : (s.setClock s.clock.second).EventsClean := h.of_ports rfl rfl
  unfold State.boundary
  dsimp only
  split
  · exact (hgap hclock).of_ports (by simp) (by simp)
  · exact hclock

theorem setEvents (h : s.EventsClean) (p : Port) : (s.setEvents p 0).EventsClean := by
  intro q
  obtain ⟨he, hk⟩ := h q
  cases p with
  | meter =>
    cases q with
    | meter => exact ⟨BitVec.zero_and, hk⟩
    | survey => exact ⟨he, hk⟩
  | survey =>
    cases q with
    | meter => exact ⟨he, hk⟩
    | survey => exact ⟨BitVec.zero_and, hk⟩

theorem setMask (h : s.EventsClean) (p : Port) (w : U16) : (s.setMask p (maskOf w)).EventsClean := by
  intro q
  obtain ⟨he, hk⟩ := h q
  cases p with
  | meter =>
    cases q with
    | meter => exact ⟨he, maskOf_clean w⟩
    | survey => exact ⟨he, hk⟩
  | survey =>
    cases q with
    | meter => exact ⟨he, hk⟩
    | survey => exact ⟨he, maskOf_clean w⟩

theorem readFrom (h : s.EventsClean) (p : Port) (c : Nat) (b : Bool) : (s.readFrom p c b).1.EventsClean := by
  intro q
  obtain ⟨he, hk⟩ := h q
  cases p <;> cases q <;> exact ⟨he, hk⟩

/-- Every request but SOFT RESET keeps the reserved bits clear: events are raised, a set is emptied or a mask is set. -/
theorem operationOf (h : s.EventsClean) {i : Instr} {p : Port} {r : Req} (hi : i.request = some (p, r))
    (hr : r ≠ .softReset) : (operationOf i s).1.EventsClean := by
  cases i <;> simp only [Instr.request, reduceCtorEq] at hi <;> rw [Machine.operationOf]
  case readLive | status | readClock | readMask | readDigest | readBases => exact h
  case softReset => cases hi; exact absurd rfl hr
  case sample p q r tx ty dT f =>
    cases p with
    | survey => exact h
    | meter =>
      obtain ⟨l, hl⟩ := opSample_meter s q r tx ty dT f
      rw [hl]
      refine handSample (of_ports (h.takeSequence q.toNat) ?_ ?_) _ <;> simp
  case setClock =>
    unfold opSetClock
    split
    · exact h
    split
    · exact h
    · exact h.clockSetTo _
  case readEvents => exact h.setEvents _
  case setMask => exact h.setMask _ _
  case readItem =>
    unfold opReadItem
    split <;> exact h
  case writeItem =>
    unfold opWriteItem
    split
    · exact h
    split_ifs
    iterate 3 exact h
    split
    · exact h
    · exact h.of_ports rfl rfl
  case commit =>
    unfold opCommit
    split_ifs
    iterate 3 exact h
    split
    · exact h
    · exact h.commitFrom _ _ _
  case discard =>
    unfold opDiscard
    split_ifs
    iterate 2 exact h
    exact h.of_ports rfl rfl
  case openSurvey =>
    unfold opOpenSurvey
    split
    · exact h
    split_ifs
    iterate 4 exact h
    exact raise (h.of_ports rfl rfl) _
  case closeSurvey =>
    unfold opCloseSurvey
    split
    · exact h
    split_ifs
    iterate 3 exact h
    exact raise (h.of_ports (by simp) (by simp)) _
  case resume =>
    unfold opResume
    split_ifs
    iterate 3 exact h
    exact raise (h.of_ports rfl rfl) _
  case setLine =>
    unfold opSetLine
    split
    · exact h
    split_ifs
    iterate 2 exact h
    exact h.of_ports rfl rfl
  case setPosition =>
    unfold opSetPosition
    split
    · exact h
    split_ifs
    · exact h.of_ports rfl rfl
    · exact h.of_ports rfl rfl
    · exact h
  case occupy =>
    unfold opOccupy
    split
    · exact h
    split_ifs
    iterate 4 exact h
    split
    · exact h
    dsimp only
    split
    · exact h.startOccupation _ _
    · exact h
  case occupyNext =>
    unfold opOccupyNext
    split_ifs
    iterate 3 exact h
    split
    · exact h
    split
    · exact h
    · exact of_ports (h.startOccupation _ _) rfl rfl
  case endOccupation =>
    unfold opEnd
    split
    · exact h
    split
    · exact h
    split
    · exact h
    · exact h.endAccepted _ _
  case abandon =>
    unfold opAbandon
    split
    · exact h
    split
    · exact h
    · exact h.abandonAccepted _ _
  case readLogFrom => exact h.readFrom _ _ _
  case readLogNext =>
    unfold opReadLogNext
    split
    · exact h
    split <;> exact h.readFrom _ _ _
  case purge =>
    unfold opPurge
    split
    · exact h
    · exact h.of_ports rfl rfl
  case loadBase =>
    unfold opLoadBase
    split
    · exact h
    split_ifs <;> exact h
  case dropBase =>
    unfold opDropBase
    split
    · exact h
    split_ifs <;> exact h

end State.EventsClean

/-- The stages of a restart behind stage 2 leave what stage 2 has reset. -/
theorem State.takeStage_later {s : State} (h : s.startUp ≠ some .mainDomain) (b : Bool) :
    (s.takeStage b).meter = s.meter ∧ (s.takeStage b).uart = s.uart ∧ (s.takeStage b).cache = s.cache ∧
      (s.takeStage b).occ = s.occ := by
  unfold State.takeStage
  split
  next => simp
  next hm => exact absurd hm h
  all_goals simp

theorem keeps_eventInv : Keeps State.eventInv := by
  refine Keeps.whileLive State.EventsClean ?ports (fun hi hr _ _ h => h.operationOf hi hr) (·.boundary)
    (·.of_ports rfl rfl) (·.closureStep) (·.blockWritten) ?digest (·.of_ports rfl rfl) (·.of_ports rfl rfl) ?main ?later
  case ports =>
    rintro s t ⟨_, _, _, _, _, _, _, _, rfl⟩ h p
    obtain ⟨he, hk⟩ := h p
    cases p <;> exact ⟨he, hk⟩
  case digest =>
    intro s h
    refine (h.of_ports ?_ ?_).raise _ <;> rfl
  case main =>
    intro s b _ p
    have hevents : restartedWord &&& ~~~allEvents = 0 := by decide
    have hmask : allEvents &&& ~~~allEvents = 0 := by decide
    cases p <;> exact ⟨hevents, hmask⟩
  case later =>
    intro s b hs h
    obtain ⟨hmeter, huart, -⟩ := State.takeStage_later hs b
    exact h.of_ports hmeter huart

/-! ## The latitude-factor cache (R52) -/

/-- A cached entry is the one formed from its key. -/
def CacheTrue (c : Option CacheEntry) : Prop := ∀ e, c = some e → e = formEntry e.key

theorem CacheTrue.tideTerm {c : Option CacheEntry} (h : CacheTrue c) (b : TideBlock) (pos : Option Position) (isSet : Bool)
    (t : Nat) : CacheTrue (tideTerm b c pos isSet t).cache := by
  unfold Machine.tideTerm
  dsimp only
  split
  next p _ _ =>
    intro e he
    cases he
    rw [cachedEntry_eq_formEntry h]
    rfl
  next => exact h

theorem State.tideNow_cacheTrue {s : State} (h : CacheTrue s.cache) : CacheTrue s.tideNow.cache := h.tideTerm _ _ _ _

theorem opSample_cacheTrue {s : State} (h : CacheTrue s.cache) (p : Port) (q : Byte) (r : U32) (tx ty dT : U16) (f : Byte) :
    CacheTrue (opSample p q r tx ty dT f s).1.cache := by
  cases p with
  | survey => exact h
  | meter =>
    obtain ⟨l, hl⟩ := opSample_meter s q r tx ty dT f
    have hcache : CacheTrue (s.takeSequence q.toNat).cache := by simpa using h
    rw [hl]
    simpa using State.tideNow_cacheTrue hcache

theorem keeps_cacheInv : Keeps State.cacheInv := by
  have congr {s t : State} (ht : t.cache = s.cache) (h : CacheTrue s.cache) : CacheTrue t.cache := ht ▸ h
  refine Keeps.whileLive (fun s => CacheTrue s.cache) ?ports ?request (congr (by simp)) id (congr (by simp)) (congr (by simp))
    id id id ?main ?later
  case ports =>
    rintro s t ⟨_, _, _, _, _, _, _, _, rfl⟩ h
    exact h
  case request =>
    intro i p r s hi _ _ _ h
    by_cases hr : r = .sample
    · subst hr
      obtain ⟨q, x, tx, ty, dT, f, rfl⟩ := eq_sample_of_request hi
      exact opSample_cacheTrue h p q x tx ty dT f
    · exact congr (operationOf_cache hi hr) h
  case main => exact fun _ _ he => nomatch he
  case later =>
    intro s b hs h
    obtain ⟨-, -, hcache, -⟩ := State.takeStage_later hs b
    exact congr hcache h

/-! ## The quiet window (R68, R71) -/

/-- The window's bounds, and an active occupation only in SURVEY and outside start-up. -/
def State.WindowOk (s : State) : Prop :=
  s.occ.window.length = 32 ∧ (∀ q, s.occ.state = .settled q → notQuietCount s.occ.window ≤ s.store.work.settle.e) ∧
    (s.occ.state ≠ .none → s.survey.state = .survey ∧ s.startUp = none)

theorem Occupation.isActive_eq_false_iff (o : Occupation) : o.isActive = false ↔ o.state = .none := by
  unfold Occupation.isActive
  cases o.state <;> simp [OccState.record]

theorem State.inSurvey_iff (s : State) : s.inSurvey = true ↔ s.survey.state = .survey ∨ s.survey.state = .held := by
  simp [State.inSurvey]

theorem State.leaveUnset_of_ne {s : State} (h : s.survey.state ≠ .unset) : s.leaveUnset = s := if_neg fun hc => h hc.1

theorem pushMark_length {w : List Bool} (h : w.length = 32) (b : Bool) : (pushMark w b).length = 32 := by
  simp [pushMark, h]

/-- A window and a state that an operation leaves keep their bounds where, under an active occupation, E, SURVEY and the end of
start-up stand too. -/
theorem State.WindowOk.of_occ {s t : State} (h : s.WindowOk) (hw : t.occ.window = s.occ.window)
    (hs : t.occ.state = s.occ.state)
    (hactive : s.survey.state = .survey → s.occ.state ≠ .none →
      t.store.work = s.store.work ∧ t.survey.state = .survey ∧ t.startUp = s.startUp) : t.WindowOk := by
  obtain ⟨hlen, hcount, hin⟩ := h
  unfold State.WindowOk
  rw [hw, hs]
  refine ⟨hlen, fun q hq => ?_, fun ha => ?_⟩
  · have ha : s.occ.state ≠ .none := by simp [hq]
    rw [(hactive (hin ha).1 ha).1]
    exact hcount q hq
  · obtain ⟨-, hsurvey, hstart⟩ := hactive (hin ha).1 ha
    exact ⟨hsurvey, hstart.trans (hin ha).2⟩

/-- A controller with 32 quiet marks has its bounds, whatever E is. -/
theorem State.WindowOk.of_quiet {s : State} (hw : s.occ.window = quietWindow)
    (ha : s.occ.state ≠ .none → s.survey.state = .survey ∧ s.startUp = none) : s.WindowOk := by
  have hzero : notQuietCount quietWindow = 0 := by decide
  refine ⟨by rw [hw]; rfl, fun q _ => ?_, ha⟩
  rw [hw, hzero]
  exact Nat.zero_le _

/-- While a survey is open no request but SOFT RESET changes the store or an image: WRITE ITEM, COMMIT and DISCARD are refused. -/
theorem operationOf_store_of_inSurvey {s : State} {i : Instr} {p : Port} {r : Req} (hi : i.request = some (p, r))
    (hr : r ≠ .softReset) (h : s.inSurvey = true) :
    (operationOf i s).1.store = s.store ∧ (operationOf i s).1.nv = s.nv := by
  by_cases hwrite : r = .writeItem
  · subst hwrite
    obtain ⟨w, rfl⟩ := eq_writeItem_of_request hi
    refine ⟨?_, operationOf_nv hi (by decide)⟩
    rw [operationOf, opWriteItem]
    split
    · rfl
    split <;> rfl
  by_cases hcommit : r = .commit
  · subst hcommit
    obtain rfl := eq_commit_of_request hi
    rw [operationOf, opCommit, if_pos h]
    exact ⟨rfl, rfl⟩
  by_cases hdiscard : r = .discard
  · subst hdiscard
    obtain rfl := eq_discard_of_request hi
    rw [operationOf, opDiscard, if_pos h]
    exact ⟨rfl, rfl⟩
  exact ⟨operationOf_store hi hwrite hcommit hdiscard hr, operationOf_nv hi hcommit⟩

/-- Under an active occupation no request but SOFT RESET ends SURVEY: OPEN SURVEY, CLOSE SURVEY and RESUME are refused. -/
theorem operationOf_survey_of_active {s : State} {i : Instr} {p : Port} {r : Req} (hi : i.request = some (p, r))
    (hr : r ≠ .softReset) (hs : s.survey.state = .survey) (ha : s.occ.isActive = true) :
    (operationOf i s).1.survey.state = .survey := by
  have hin : s.inSurvey = true := s.inSurvey_iff.2 (.inl hs)
  cases i <;> simp only [Instr.request, reduceCtorEq] at hi <;> rw [operationOf]
  case softReset => cases hi; exact absurd rfl hr
  case setClock =>
    unfold opSetClock
    split
    · exact hs
    split
    · exact hs
    · rw [accept_state, State.clockSetTo, State.leaveUnset_of_ne]
      · exact hs
      · simp [hs]
  case commit =>
    rw [opCommit, if_pos hin]
    exact hs
  case openSurvey =>
    unfold opOpenSurvey
    split
    · exact hs
    · rw [if_pos (by simp [hs])]
      exact hs
  case closeSurvey =>
    unfold opCloseSurvey
    split
    · exact hs
    · rw [if_neg (by simp [hin]), if_pos ha]
      exact hs
  case resume =>
    rw [opResume, if_pos (by simp [hs])]
    exact hs
  case setLine =>
    unfold opSetLine
    split
    · exact hs
    split_ifs <;> exact hs
  case occupy =>
    unfold opOccupy
    split
    · exact hs
    · rw [if_neg (by simp [hs]), if_pos ha]
      exact hs
  case occupyNext =>
    rw [opOccupyNext, if_neg (by simp [hs]), if_pos ha]
    exact hs
  all_goals simp [hs]

theorem State.takeSequence_occ (s : State) (q : Nat) :
    (s.takeSequence q).occ.window = s.occ.window ∧ (s.takeSequence q).occ.state = s.occ.state := by
  unfold State.takeSequence State.reportLoss
  dsimp only
  split_ifs <;> simp

theorem State.WindowOk.settlingSample {s : State} {q : Nat} (h : s.WindowOk) (ho : s.occ.state = .settling q) (l : Live) :
    (s.settlingSample q l).WindowOk := by
  have hin := h.2.2 (by simp [ho])
  unfold State.settlingSample
  extract_lets quiet run o
  split
  · exact .of_quiet rfl fun _ => hin
  · refine ⟨pushMark_length h.1 _, fun q' hq => ?_, fun _ => hin⟩
    have hsettled : s.occ.state = .settled q' := hq
    rw [ho] at hsettled
    cases hsettled

theorem State.WindowOk.settledSample {s : State} {q : Nat} (h : s.WindowOk) (ho : s.occ.state = .settled q) (l : Live) :
    (s.settledSample q l).WindowOk := by
  have hin := h.2.2 (by simp [ho])
  unfold State.settledSample
  extract_lets quiet window s1 o
  have hsurvey : s1.survey.state = .survey := by simpa [s1] using hin.1
  have hstart : s1.startUp = none := by simpa [s1] using hin.2
  split
  · exact .of_quiet rfl fun _ => ⟨hsurvey, hstart⟩
  next hquiet =>
    refine ⟨pushMark_length h.1 _, fun _ _ => ?_, fun _ => ⟨hsurvey, hstart⟩⟩
    have hstore : s1.store = s.store := by simp [s1]
    rw [State.setOcc_store, hstore]
    exact Nat.not_lt.1 hquiet

theorem State.WindowOk.handSample {s : State} (h : s.WindowOk) (l : Live) : (s.handSample l).WindowOk := by
  unfold State.handSample
  split
  next => exact h
  next q ho => exact h.settlingSample ho l
  next q ho => exact h.settledSample ho l

theorem State.WindowOk.startOccupation {s : State} (hs : s.survey.state = .survey) (hu : s.startUp = none) (p : Port)
    (o : Start) : (s.startOccupation p o).WindowOk := by
  refine .of_quiet rfl fun _ => ⟨?_, by simpa using hu⟩
  unfold State.startOccupation State.advanceLine
  split <;> simpa using hs

theorem State.WindowOk.idle {s : State} (hw : s.occ.window = quietWindow) (hs : s.occ.state = .none) : s.WindowOk :=
  .of_quiet hw fun ha => absurd hs ha

theorem State.WindowOk.operationOf {s : State} (h : s.WindowOk) {i : Instr} {p : Port} {r : Req} (hi : i.request = some (p, r))
    (hr : r ≠ .softReset) (hu : s.startUp = none) : (operationOf i s).1.WindowOk := by
  by_cases hsample : r = .sample
  · subst hsample
    obtain ⟨q, x, tx, ty, dT, f, rfl⟩ := eq_sample_of_request hi
    cases p with
    | survey => exact h
    | meter =>
      obtain ⟨l, hl⟩ := opSample_meter s q x tx ty dT f
      obtain ⟨hw, ho⟩ := s.takeSequence_occ q.toNat
      have hcorrected (c : Option CacheEntry) : ((s.takeSequence q.toNat).correctSample l c).WindowOk :=
        h.of_occ hw ho fun hs _ => by simpa using hs
      rw [Machine.operationOf, hl]
      exact (hcorrected _).handSample l
  by_cases hoccupy : r = .occupy
  · subst hoccupy
    obtain ⟨k, id, lat, lon, rfl⟩ := eq_occupy_of_request hi
    rw [Machine.operationOf]
    unfold opOccupy
    split
    · exact h
    split
    · exact h
    next hs =>
    split_ifs
    iterate 3 exact h
    split
    · exact h
    dsimp only
    split
    · exact .startOccupation (not_not.1 hs) hu _ _
    · exact h
  by_cases hnext : r = .occupyNext
  · subst hnext
    obtain rfl := eq_occupyNext_of_request hi
    rw [Machine.operationOf, opOccupyNext]
    split
    · exact h
    next hs =>
    split_ifs
    iterate 2 exact h
    split
    · exact h
    split
    · exact h
    · exact (State.WindowOk.startOccupation (not_not.1 hs) hu p _ : _)
  by_cases hend : r = .endOccupation
  · subst hend
    obtain rfl := eq_endOccupation_of_request hi
    rw [Machine.operationOf, opEnd]
    split
    · exact h
    split
    · exact h
    split
    · exact h
    · exact .idle rfl rfl
  by_cases habandon : r = .abandon
  · subst habandon
    obtain rfl := eq_abandon_of_request hi
    rw [Machine.operationOf, opAbandon]
    split
    · exact h
    split
    · exact h
    · exact .idle rfl rfl
  have ho := operationOf_occ (s := s) hi hsample hoccupy hnext hend habandon
  refine h.of_occ (by rw [ho]) (by rw [ho]) fun hs ha => ?_
  have hactive : s.occ.isActive = true := by
    rw [← Bool.not_eq_false, Occupation.isActive_eq_false_iff]
    exact ha
  obtain ⟨hstore, -⟩ := operationOf_store_of_inSurvey hi hr (s.inSurvey_iff.2 (.inl hs))
  exact ⟨by rw [hstore], operationOf_survey_of_active hi hr hs hactive, operationOf_startUp hi hr⟩

theorem State.WindowOk.countGap {s : State} (h : s.WindowOk) : s.countGap.WindowOk := by
  unfold State.countGap
  dsimp only
  split
  next => exact h
  next q ho =>
    have ha : s.occ.state ≠ .none := by
      intro hnone
      rw [hnone] at ho
      cases ho
    split_ifs
    · exact .of_quiet (by simp [State.gapExpires]) fun _ => by simpa using h.2.2 ha
    · exact h
    · exact h

theorem State.WindowOk.boundary {s : State} (h : s.WindowOk) : s.boundary.WindowOk := by
  have hstale {t : State} (ht : t.WindowOk) : t.countStale.WindowOk := by
    unfold State.countStale
    dsimp only
    split <;> exact ht
  unfold State.boundary
  dsimp only
  split
  · exact hstale (State.WindowOk.countGap (s := s.setClock s.clock.second) h)
  · exact h

theorem State.blockWritten_work (s : State) : s.blockWritten.store.work = s.store.work := by
  unfold State.blockWritten
  split
  · rw [State.commitFrom_work]
    rfl
  · rfl

/-- A commit that goes on leaves SURVEY: it may only leave UNSET (R131, R153). -/
theorem State.commitFrom_survey {s : State} (hs : s.survey.state ≠ .unset) (w k : Bool) (bs : List Block) :
    (s.commitFrom w k bs).survey = s.survey := by
  induction bs generalizing s with
  | nil =>
    rw [State.commitFrom, State.commitDone, State.leaveUnset_of_ne]
    · rfl
    · exact hs
  | cons b rest ih =>
    rw [State.commitFrom]
    split
    · exact ih (s := s.setStore _) hs
    · cases k <;> rfl

theorem State.blockWritten_survey {s : State} (hs : s.survey.state ≠ .unset) : s.blockWritten.survey = s.survey := by
  unfold State.blockWritten
  split
  · rw [State.commitFrom_survey]
    · rfl
    · exact hs
  · rfl

theorem keeps_windowInv : Keeps State.windowInv := by
  refine Keeps.whileLive State.WindowOk ?ports (fun hi hr _ hu h => h.operationOf hi hr hu) (·.boundary) id ?closure ?block id id
    id ?main ?later
  case ports =>
    rintro s t ⟨_, _, _, _, _, _, _, _, rfl⟩ h
    exact h
  case closure =>
    intro s h
    exact h.of_occ (by simp) (by simp) fun hs _ => by simpa using hs
  case block =>
    intro s h
    refine h.of_occ (by simp) (by simp) fun hs _ => ⟨s.blockWritten_work, ?_, by simp⟩
    rw [State.blockWritten_survey] <;> simp [hs]
  case main => exact fun _ => .idle rfl rfl
  case later =>
    intro s b hs h
    obtain ⟨-, -, -, hocc⟩ := State.takeStage_later hs b
    by_cases hu : s.startUp = none
    · rwa [State.takeStage, hu]
    · have hidle : s.occ.state = .none := by
        by_contra ha
        exact hu (h.2.2 ha).2
      exact h.of_occ (by rw [hocc]) (by rw [hocc]) fun _ ha => absurd hidle ha

/-- Settles O56: each of the five invariants is one that `Keeps` carries from the operations to every step. -/
theorem stepKeepsTheBlocksInvariants : Obligations.StepKeepsTheBlocksInvariants := by
  intro s t hstep
  exact ⟨fun h => keeps_clockInv.step (fun _ _ h => h) h hstep, fun h => keeps_baseInv.step (fun _ _ h => h) h hstep,
    fun h => keeps_eventInv.step (fun _ _ h => h) h hstep, fun h => keeps_cacheInv.step (fun _ _ h => h) h hstep,
    fun h => keeps_windowInv.step (fun _ _ h => h) h hstep⟩

end Sys2Proof.Machine

/-! SUPPORT. What every step keeps of the log and its records: the log's form, the one ACTIVE record, the ties' values, the reductions,
and the closure queue. -/

namespace Sys2Proof.Machine

/-! ## The log's form (R87, R88) -/

/-- The log's form is that of its sequence numbers and its counter. -/
theorem Log.wf_of_seqs {l m : Log} (h : l.wf) (hs : m.records.map (·.seq) = l.records.map (·.seq))
    (hc : m.counter = l.counter) : m.wf := by
  have hlen : m.records.length = l.records.length := by simpa using congrArg List.length hs
  unfold Log.wf at h ⊢
  rwa [hs, hc, hlen]

theorem Log.wf.seq_lt {l : Log} (h : l.wf) {r : Record} (hr : r ∈ l.records) : r.seq < l.counter := by
  obtain ⟨-, hlt, -, hseqs⟩ := h
  have hmem : r.seq ∈ l.records.map (·.seq) := List.mem_map_of_mem hr
  rw [hseqs, List.mem_range'_1] at hmem
  omega

/-- A record that takes the counter's value as its number joins a log that is not full (R88, R96). -/
theorem Log.wf.append {l : Log} (h : l.wf) (hfull : l.full = false) {r : Record} (hr : r.seq = l.counter) :
    Log.wf { records := l.records ++ [r], counter := l.counter + 1 } := by
  obtain ⟨-, hlt, -, hseqs⟩ := h
  simp only [Log.full, Bool.or_eq_false_iff, decide_eq_false_iff_not, Nat.not_le] at hfull
  have hstart : l.counter + 1 - (l.records.length + 1) = l.counter - l.records.length := by omega
  have hend : l.counter - l.records.length + l.records.length = l.counter := by omega
  refine ⟨?_, ?_, ?_, ?_⟩
  · simp; omega
  · simp; omega
  · simp; omega
  · simp [hseqs, hstart, hr, hend, List.range'_concat]

/-- What PURGE leaves has the log's form (R105). -/
theorem Log.wf.suffix {l : Log} (h : l.wf) {removed rest : List Record} (hr : l.records = removed ++ rest) :
    Log.wf { l with records := rest } := by
  obtain ⟨hmax, hlt, hcount, hseqs⟩ := h
  have hlen : l.records.length = removed.length + rest.length := by rw [hr, List.length_append]
  refine ⟨?_, ?_, hcount, ?_⟩
  · dsimp only; omega
  · dsimp only; omega
  · have hdrop := congrArg (List.drop removed.length) hseqs
    rw [hr, List.map_append, List.drop_left' (by simp), List.drop_range'] at hdrop
    rw [hdrop]
    congr 1
    · simp; omega
    · simp

/-! ## Records changed one by one -/

/-- From `l` to `m` each record has changed as `R` allows; none has joined or gone, and the counter stands. -/
def Log.Changed (R : Record → Record → Prop) (l m : Log) : Prop :=
  ∃ f : Record → Record, m = { l with records := l.records.map f } ∧ ∀ r ∈ l.records, R r (f r)

theorem Log.changed_modify {R : Record → Record → Prop} {l : Log} {q : Nat} {f : Record → Record} (hrefl : ∀ r, R r r)
    (hf : ∀ r ∈ l.records, r.seq = q → R r (f r)) : l.Changed R (l.modify q f) := by
  refine ⟨_, rfl, fun r hr => ?_⟩
  split
  next hq => exact hf r hr hq
  next => exact hrefl r

theorem Log.Changed.forall {R : Record → Record → Prop} {l m : Log} {P Q : Record → Prop} (h : l.Changed R m)
    (hl : ∀ r ∈ l.records, P r) (hR : ∀ x y, R x y → P x → Q y) : ∀ r ∈ m.records, Q r := by
  obtain ⟨f, rfl, hf⟩ := h
  intro r hr
  obtain ⟨x, hx, rfl⟩ := List.mem_map.1 hr
  exact hR x _ (hf x hx) (hl x hx)

theorem Log.Changed.wf {R : Record → Record → Prop} {l m : Log} (h : l.Changed R m) (hl : l.wf)
    (hR : ∀ x y, R x y → y.seq = x.seq) : m.wf := by
  obtain ⟨f, rfl, hf⟩ := h
  refine Log.wf_of_seqs hl ?_ rfl
  rw [List.map_map]
  exact List.map_congr_left fun r hr => hR r _ (hf r hr)

theorem State.markActive_changed {R : Record → Record → Prop} (hrefl : ∀ r, R r r) {g : Quality → Quality}
    (hg : ∀ r : Record, R r { r with quality := g r.quality }) (s : State) : s.log.Changed R (s.markActive g).log := by
  unfold State.markActive
  split
  · exact Log.changed_modify hrefl fun r _ _ => hg r
  · exact ⟨id, by simp, fun r _ => hrefl r⟩

/-- A change that leaves what R61 and R111 speak of: a tie's figures among it, for they are those of its base. -/
structure Record.SameTie (x y : Record) : Prop where
  seq : y.seq = x.seq
  state : y.state = x.state
  kind : y.kind = x.kind
  station : y.station = x.station
  role : y.role = x.role
  figures : x.role ≠ .none → y.red.figures = x.red.figures

theorem Record.SameTie.refl (r : Record) : r.SameTie r := ⟨rfl, rfl, rfl, rfl, rfl, fun _ => rfl⟩

theorem Record.sameTie_quality (r : Record) (q : Quality) : r.SameTie { r with quality := q } :=
  ⟨rfl, rfl, rfl, rfl, rfl, fun _ => rfl⟩

/-- A closure reduces records that are no ties (R123). -/
theorem closeRecord_sameTie (e : ClosureEntry) (k : LoopBlock) (r : Record) : r.SameTie (closeRecord e k r) := by
  unfold closeRecord
  split
  · split
    next h => exact ⟨rfl, rfl, rfl, rfl, rfl, fun hr => absurd h.2 hr⟩
    next => exact .refl r
  · exact .refl r

theorem uncloseRecord_sameTie (a : Tie) (r : Record) : r.SameTie (uncloseRecord a r) := by
  unfold uncloseRecord
  split
  · exact ⟨rfl, rfl, rfl, rfl, rfl, fun _ => rfl⟩
  · exact .refl r

/-! ## The ACTIVE record and the ties (R61, R111) -/

/-- A record agrees with the base table: a tie has the adopted value of its base as its reduced value, and an ACTIVE one is no tie and,
of the kind BASE, has its id in the table. -/
def Record.TieOk (b : List BaseEntry) (r : Record) : Prop :=
  (r.role ≠ .none → ∃ e d, findBase b r.station = some e ∧ r.red.figures = some { drift := d, reduced := e.value }) ∧
  (r.state = .active → r.role = .none ∧ (r.kind = .base → (findBase b r.station).isSome = true))

/-- The ACTIVE records of a log are the one with this number, which is in it, or there is none. -/
def Log.ActiveIs (l : Log) (a : Option Nat) : Prop :=
  (∀ r ∈ l.records, r.state = .active ↔ a = some r.seq) ∧ ∀ q, a = some q → ∃ r ∈ l.records, r.seq = q

/-- The log in its form, its records in agreement with a base table, and its ACTIVE record. -/
structure RecordsOk (l : Log) (a : Option Nat) (b : List BaseEntry) : Prop where
  wf : l.wf
  ties : ∀ r ∈ l.records, r.TieOk b
  active : l.ActiveIs a

theorem Record.SameTie.tieOk {x y : Record} {b : List BaseEntry} (h : x.SameTie y) (hx : x.TieOk b) : y.TieOk b := by
  obtain ⟨htie, hbase⟩ := hx
  unfold Record.TieOk
  rw [h.role, h.state, h.kind, h.station]
  refine ⟨fun hr => ?_, hbase⟩
  rw [h.figures hr]
  exact htie hr

theorem Log.Changed.activeIs {l m : Log} {a : Option Nat} (h : l.Changed Record.SameTie m) (hl : l.ActiveIs a) :
    m.ActiveIs a := by
  obtain ⟨hiff, hnamed⟩ := hl
  refine ⟨h.forall hiff fun x y hxy hx => by rw [hxy.state, hxy.seq]; exact hx, fun q hq => ?_⟩
  obtain ⟨r, hr, hseq⟩ := hnamed q hq
  obtain ⟨f, rfl, hf⟩ := h
  exact ⟨f r, List.mem_map_of_mem hr, (hf r hr).seq.trans hseq⟩

theorem RecordsOk.changed {l m : Log} {a : Option Nat} {b : List BaseEntry} (hl : RecordsOk l a b)
    (h : l.Changed Record.SameTie m) : RecordsOk m a b :=
  ⟨h.wf hl.wf fun _ _ hxy => hxy.seq, h.forall hl.ties fun _ _ hxy hx => hxy.tieOk hx, h.activeIs hl.active⟩

/-- A log with no ACTIVE record gets one as a record joins it (R65). -/
theorem RecordsOk.append {l : Log} {b : List BaseEntry} (hl : RecordsOk l none b) (hfull : l.full = false) {r : Record}
    (hseq : r.seq = l.counter) (hstate : r.state = .active) (hr : r.TieOk b) :
    RecordsOk { records := l.records ++ [r], counter := l.counter + 1 } (some l.counter) b := by
  refine ⟨hl.wf.append hfull hseq, ?_, fun x hx => ?_, ?_⟩
  · simpa [or_imp, forall_and] using ⟨hl.ties, hr⟩
  · rcases List.mem_append.1 hx with hx | hx
    · have hlt := hl.wf.seq_lt hx
      have hidle := hl.active.1 x hx
      simp only [reduceCtorEq, iff_false] at hidle
      simp [hidle, hlt.ne']
    · obtain rfl := List.mem_singleton.1 hx
      simp [hstate, hseq]
  · rintro q hq
    cases hq
    exact ⟨r, by simp, hseq⟩

/-- The ACTIVE record completed: it is replaced by one that is not ACTIVE, and then none is (R82, R83). -/
theorem RecordsOk.complete {l : Log} {b : List BaseEntry} {q : Nat} (hl : RecordsOk l (some q) b) {y : Record}
    (hseq : y.seq = q) (hstate : y.state ≠ .active) (hy : y.TieOk b) : RecordsOk (l.modify q fun _ => y) none b := by
  have hchanged : l.Changed (fun x y => y.seq = x.seq) (l.modify q fun _ => y) :=
    Log.changed_modify (fun _ => rfl) fun x _ hx => hseq.trans hx.symm
  refine ⟨hchanged.wf hl.wf fun _ _ h => h, Log.modify_forall hl.ties fun _ _ _ => hy, fun r hr => ?_, fun _ h => nomatch h⟩
  simp only [reduceCtorEq, iff_false]
  obtain ⟨x, hx, rfl⟩ := List.mem_map.1 hr
  split
  next => exact hstate
  next hne =>
    rw [hl.active.1 x hx, Option.some.injEq]
    exact Ne.symm hne

/-- Records that are not ACTIVE removed from the oldest end (R105). -/
theorem RecordsOk.suffix {l : Log} {a : Option Nat} {b : List BaseEntry} (hl : RecordsOk l a b) {removed rest : List Record}
    (hr : l.records = removed ++ rest) (hidle : ∀ r ∈ removed, r.state ≠ .active) :
    RecordsOk { l with records := rest } a b := by
  have hsub {r : Record} (h : r ∈ rest) : r ∈ l.records := hr ▸ List.mem_append_right _ h
  refine ⟨hl.wf.suffix hr, fun r h => hl.ties r (hsub h), fun r h => hl.active.1 r (hsub h), fun q hq => ?_⟩
  obtain ⟨r, hmem, hseq⟩ := hl.active.2 q hq
  have hactive : r.state = .active := (hl.active.1 r hmem).2 (hseq ▸ hq)
  rw [hr] at hmem
  exact ⟨r, (List.mem_append.1 hmem).resolve_left fun h => hidle r h hactive, hseq⟩

/-- The base table changed at ids that no tie has, and that are still found where the ACTIVE record is a BASE occupation (R108). -/
theorem RecordsOk.rebase {l : Log} {a : Option Nat} {b c : List BaseEntry} (hl : RecordsOk l a b)
    (htie : ∀ r ∈ l.records, r.role ≠ .none → findBase c r.station = findBase b r.station)
    (hbase : ∀ r ∈ l.records, r.state = .active → r.kind = .base → (findBase b r.station).isSome = true →
      (findBase c r.station).isSome = true) : RecordsOk l a c := by
  refine ⟨hl.wf, fun r hr => ?_, hl.active⟩
  obtain ⟨h1, h2⟩ := hl.ties r hr
  refine ⟨fun hrole => ?_, fun hact => ⟨(h2 hact).1, fun hkind => hbase r hr hact hkind ((h2 hact).2 hkind)⟩⟩
  rw [htie r hr hrole]
  exact h1 hrole

/-! ## What the operations do to the records -/

/-- The records of a state whose main domain holds its own values (R61, R87, R111). -/
def State.RecordsOk (s : State) : Prop := Machine.RecordsOk s.log s.occ.state.record s.bases

theorem State.RecordsOk.of_eq {s t : State} (h : s.RecordsOk) (hl : t.log = s.log)
    (ho : t.occ.state.record = s.occ.state.record) (hb : t.bases = s.bases) : t.RecordsOk := by
  unfold State.RecordsOk
  rwa [hl, ho, hb]

theorem State.RecordsOk.changed {s t : State} (h : s.RecordsOk) (hl : s.log.Changed Record.SameTie t.log)
    (ho : t.occ.state.record = s.occ.state.record) (hb : t.bases = s.bases) : t.RecordsOk := by
  unfold State.RecordsOk
  rw [ho, hb]
  exact Machine.RecordsOk.changed h hl

/-- With no occupation active no record is named. -/
theorem State.record_of_not_isActive {s : State} (h : s.occ.isActive = false) : s.occ.state.record = none := by
  rw [(s.occ.isActive_eq_false_iff).1 h]
  rfl

theorem Log.wf.find_eq {l : Log} (h : l.wf) {r : Record} (hr : r ∈ l.records) : l.find r.seq = some r := by
  cases hf : l.find r.seq with
  | none =>
    simp only [Log.find, List.find?_eq_none, beq_iff_eq] at hf
    exact absurd rfl (hf r hr)
  | some x =>
    have hx : x.seq = r.seq := by simpa using List.find?_some hf
    rw [h.unique (List.mem_of_find?_eq_some hf) hr hx]

/-- The ACTIVE record is the one that the occupation controller reads from the log. -/
theorem State.RecordsOk.activeRecord_eq {s : State} (h : s.RecordsOk) {r : Record} (hr : r ∈ s.log.records)
    (ha : r.state = .active) : s.activeRecord = some r := by
  rw [State.activeRecord, (h.active.1 r hr).1 ha]
  exact h.wf.find_eq hr

theorem State.activeRecord_active {s : State} (h : s.RecordsOk) {r : Record} (hr : s.activeRecord = some r) :
    r ∈ s.log.records ∧ s.occ.state.record = some r.seq ∧ r.state = .active := by
  obtain ⟨hmem, hrec⟩ := State.activeRecord_spec hr
  exact ⟨hmem, hrec, (h.active.1 r hmem).2 hrec⟩

theorem State.takeSequence_changed {R : Record → Record → Prop} (hrefl : ∀ r, R r r)
    (hq : ∀ (r : Record) (q : Quality), R r { r with quality := q }) (s : State) (n : Nat) :
    s.log.Changed R (s.takeSequence n).log := by
  have hsame : s.log.Changed R s.log := ⟨id, by simp, fun r _ => hrefl r⟩
  unfold State.takeSequence State.reportLoss
  dsimp only
  split
  · exact hsame
  split
  · exact State.markActive_changed hrefl (fun r => hq r _) _
  · exact hsame

theorem State.handSample_changed {R : Record → Record → Prop} (hrefl : ∀ r, R r r)
    (hq : ∀ (r : Record) (q : Quality), R r { r with quality := q }) (s : State) (l : Live) :
    s.log.Changed R (s.handSample l).log := by
  have hsame : s.log.Changed R s.log := ⟨id, by simp, fun r _ => hrefl r⟩
  unfold State.handSample
  split
  · exact hsame
  · simpa using hsame
  · unfold State.settledSample
    extract_lets quiet window s1 o
    have hmarked : s.log.Changed R s1.log := State.markActive_changed hrefl (fun r => hq r _) s
    split <;> exact hmarked

theorem State.handSample_record (s : State) (l : Live) : (s.handSample l).occ.state.record = s.occ.state.record := by
  unfold State.handSample
  split
  next => rfl
  next q ho =>
    rw [ho]
    unfold State.settlingSample
    extract_lets quiet run o
    split
    · rfl
    · exact congrArg OccState.record ho
  next q ho =>
    rw [ho]
    unfold State.settledSample
    extract_lets quiet window s1 o
    have hocc : s1.occ = s.occ := by simp [s1]
    split
    · rfl
    · exact congrArg OccState.record ((congrArg Occupation.state hocc).trans ho)

theorem State.RecordsOk.sample {s : State} (h : s.RecordsOk) (p : Port) (q : Byte) (r : U32) (tx ty dT : U16) (f : Byte) :
    (opSample p q r tx ty dT f s).1.RecordsOk := by
  cases p with
  | survey => exact h
  | meter =>
    obtain ⟨l, hl⟩ := opSample_meter s q r tx ty dT f
    rw [hl]
    have hseq : (s.takeSequence q.toNat).RecordsOk :=
      h.changed (State.takeSequence_changed .refl Record.sameTie_quality s _) (by rw [(s.takeSequence_occ _).2]) (by simp)
    have hcorrected (c : Option CacheEntry) : ((s.takeSequence q.toNat).correctSample l c).RecordsOk := hseq
    exact (hcorrected _).changed (State.handSample_changed .refl Record.sameTie_quality _ l) (State.handSample_record _ l)
      (by simp)

theorem State.RecordsOk.startOccupation {s : State} (h : s.RecordsOk) (hidle : s.occ.isActive = false)
    (hfull : s.log.full = false) (p : Port) {o : Start}
    (hbase : o.kind = .base → (findBase s.bases o.station).isSome = true) : (s.startOccupation p o).RecordsOk := by
  have hnone : Machine.RecordsOk s.log none s.bases := State.record_of_not_isActive hidle ▸ h
  have htie : (s.newRecord p o).TieOk s.bases := ⟨fun hr => absurd rfl hr, fun _ => ⟨rfl, hbase⟩⟩
  have happend := hnone.append hfull (r := s.newRecord p o) rfl rfl htie
  have hlog : (s.startOccupation p o).log = { records := s.log.records ++ [s.newRecord p o], counter := s.log.counter + 1 } := by
    simp only [State.startOccupation, State.setOcc_log, State.advanceLine_frame, State.appendRecord]
    split <;> rfl
  have hrec : (s.startOccupation p o).occ.state.record = some s.log.counter := rfl
  unfold State.RecordsOk
  rw [hlog, hrec, (s.startOccupation_frame p o).2.1]
  exact happend

/-- The loop engine at END changes the log by one record put over the one that has ended, whatever becomes of the loops (R115). -/
theorem State.reduceEnded_log (s : State) (r : Record) :
    ∃ y, (s.reduceEnded r).log = s.log.modify r.seq (fun _ => y) ∧ y.seq = r.seq ∧ y.state = r.state ∧ y.kind = r.kind ∧
      y.station = r.station ∧ y.result = r.result ∧
      (y.role = r.role ∧
          (y.red = r.red ∧ r.result = none ∨
            ∃ res, r.result = some res ∧ y.red = stationReduction s.loop res s.store.work.loop.ll) ∨
        r.kind = .base ∧ y.role ≠ .none ∧
          ∃ d, y.red.figures = some { drift := d, reduced := adoptedValue s.bases r.station }) := by
  unfold State.reduceEnded
  split
  next hres => exact ⟨_, rfl, rfl, rfl, rfl, rfl, rfl, .inl ⟨rfl, .inl ⟨rfl, hres⟩⟩⟩
  next res hres =>
    split
    next hbase =>
      split
      · exact ⟨_, rfl, rfl, rfl, rfl, rfl, rfl, .inr ⟨hbase.1, by simp, _, rfl⟩⟩
      · unfold State.closingTie
        dsimp only
        split <;> exact ⟨_, rfl, rfl, rfl, rfl, rfl, rfl, .inr ⟨hbase.1, by simp, _, rfl⟩⟩
    next => exact ⟨_, rfl, rfl, rfl, rfl, rfl, rfl, .inl ⟨rfl, .inr ⟨res, hres, rfl⟩⟩⟩

theorem State.RecordsOk.endAccepted {s : State} (h : s.RecordsOk) {r : Record} (hr : s.activeRecord = some r) (p : Port) :
    (s.endAccepted p r).RecordsOk := by
  obtain ⟨hmem, hrec, hact⟩ := State.activeRecord_active h hr
  obtain ⟨hrole, hbase⟩ := (h.ties r hmem).2 hact
  obtain ⟨y, hlog, hseq, hstate, hkind, hstation, -, hred⟩ := s.reduceEnded_log (s.endedRecord p r)
  have hidle : y.state ≠ .active := by rw [hstate]; exact fun hc => nomatch hc
  have hy : y.TieOk s.bases := by
    refine ⟨fun hyrole => ?_, fun hyact => absurd hyact hidle⟩
    rcases hred with ⟨hsame, -⟩ | ⟨hkindb, -, d, hfig⟩
    · exact absurd (hsame.trans hrole) hyrole
    · obtain ⟨e, he⟩ := Option.isSome_iff_exists.1 (hbase hkindb)
      refine ⟨e, d, by rw [hstation]; exact he, ?_⟩
      have hvalue : adoptedValue s.bases r.station = e.value := by rw [adoptedValue, he]
      exact hfig.trans (by rw [← hvalue]; rfl)
  have hdone : Machine.RecordsOk (s.log.modify r.seq fun _ => y) none s.bases :=
    Machine.RecordsOk.complete (hrec ▸ h) hseq hidle hy
  unfold State.RecordsOk
  rw [(s.endAccepted_frame p r).2.2.1]
  have hlogs : (s.endAccepted p r).log = s.log.modify r.seq fun _ => y := hlog
  rw [hlogs]
  exact hdone

theorem State.RecordsOk.abandonAccepted {s : State} (h : s.RecordsOk) {r : Record} (hr : s.activeRecord = some r) (p : Port) :
    (s.abandonAccepted p r).RecordsOk := by
  obtain ⟨hmem, hrec, hact⟩ := State.activeRecord_active h hr
  obtain ⟨hrole, -⟩ := (h.ties r hmem).2 hact
  exact Machine.RecordsOk.complete (hrec ▸ h) rfl (fun hc => nomatch hc)
    ⟨fun hyrole => absurd hrole hyrole, fun hc => nomatch hc⟩

theorem State.baseInUse_iff (s : State) (id : Nat) :
    s.baseInUse id = true ↔ (∃ r ∈ s.log.records, r.role ≠ .none ∧ r.station = id) ∨
      ∃ r, s.activeRecord = some r ∧ r.kind = .base ∧ r.station = id := by
  simp only [State.baseInUse, Bool.or_eq_true, List.any_eq_true, Record.isTieAt, Record.isBaseAt, Bool.and_eq_true, bne_iff_ne,
    beq_iff_eq]
  cases s.activeRecord <;> simp

/-- The table changed at an id that is not in use leaves every record in agreement (R108). -/
theorem State.RecordsOk.setBases_unused {s : State} (h : s.RecordsOk) {id : Nat} (hid : s.baseInUse id = false)
    {c : List BaseEntry} (hc : ∀ x, x ≠ id → findBase c x = findBase s.bases x) : (s.setBases c).RecordsOk := by
  have hunused : ¬s.baseInUse id = true := by simp [hid]
  rw [State.baseInUse_iff, not_or] at hunused
  obtain ⟨htie, hbase⟩ := hunused
  refine Machine.RecordsOk.rebase h (fun r hr hrole => hc _ fun hs => htie ⟨r, hr, hrole, hs⟩) fun r hr hact hkind hfound => ?_
  rw [State.setBases_bases, hc _ fun hs => hbase ⟨r, h.activeRecord_eq hr hact, hkind, hs⟩]
  exact hfound

theorem State.RecordsOk.loadBase {s : State} (h : s.RecordsOk) (p : Port) (id v : U32) :
    (opLoadBase p id v s).1.RecordsOk := by
  unfold opLoadBase
  split
  · exact h
  split
  · exact h
  split
  · exact h
  split
  · split
    · exact h
    next huse => exact h.setBases_unused (Bool.not_eq_true _ ▸ huse) fun x hx => findBase_insertBase_ne _ _ _ x hx
  next hnew =>
    have hnone : findBase s.bases id.toNat = none := by simpa using hnew
    split
    · exact h
    · refine Machine.RecordsOk.rebase h (fun r hr hrole => ?_) fun r _ _ _ hfound => ?_
      · obtain ⟨e, d, he, -⟩ := (h.ties r hr).1 hrole
        refine findBase_insertBase_ne _ _ _ _ fun hs => ?_
        rw [hs, hnone] at he
        cases he
      · rw [accept_state, State.setBases_bases, findBase_insertBase_ne]
        · exact hfound
        · intro hs
          rw [hs, hnone] at hfound
          cases hfound

theorem State.RecordsOk.dropBase {s : State} (h : s.RecordsOk) (p : Port) (id : U32) : (opDropBase p id s).1.RecordsOk := by
  unfold opDropBase
  split
  · exact h
  split
  · exact h
  split
  · exact h
  split
  · exact h
  split
  · exact h
  next huse => exact h.setBases_unused (Bool.not_eq_true _ ▸ huse) fun x hx => findBase_removeBase_ne _ _ x hx

theorem State.closeLoops_changed {R : Record → Record → Prop} (hrefl : ∀ r, R r r) (hR : ∀ a r, R r (uncloseRecord a r))
    (s : State) : s.log.Changed R s.closeLoops.log := by
  unfold State.closeLoops
  dsimp only
  split
  · exact ⟨_, rfl, fun r _ => hR _ r⟩
  · exact ⟨id, by simp, fun r _ => hrefl r⟩

theorem State.closureStep_changed {R : Record → Record → Prop} (hrefl : ∀ r, R r r) (hR : ∀ e k r, R r (closeRecord e k r))
    (s : State) : s.log.Changed R s.closureStep.log := by
  have hsame : s.log.Changed R s.log := ⟨id, by simp, fun r _ => hrefl r⟩
  unfold State.closureStep
  split
  · split
    · exact hsame
    · exact Log.changed_modify hrefl fun r _ _ => hR _ _ r
  · exact hsame

/-- Every request but SOFT RESET keeps the records in order. -/
theorem State.RecordsOk.operationOf {s : State} (h : s.RecordsOk) {i : Instr} {p : Port} {r : Req}
    (hi : i.request = some (p, r)) (hr : r ≠ .softReset) : (operationOf i s).1.RecordsOk := by
  by_cases hsample : r = .sample
  · subst hsample
    obtain ⟨q, x, tx, ty, dT, f, rfl⟩ := eq_sample_of_request hi
    exact h.sample p q x tx ty dT f
  by_cases hoccupy : r = .occupy
  · subst hoccupy
    obtain ⟨k, id, lat, lon, rfl⟩ := eq_occupy_of_request hi
    rw [Machine.operationOf]
    unfold opOccupy
    split
    · exact h
    split
    · exact h
    split
    · exact h
    next hidle =>
    split
    · exact h
    next hfull =>
    split
    · exact h
    next hlisted =>
    split
    · exact h
    next hkind =>
    dsimp only
    split
    · refine h.startOccupation (by simpa using hidle) (by simpa using hfull) _ fun hbase => ?_
      by_contra hnone
      exact hlisted ⟨by rw [hkind]; exact congrArg some hbase, by simpa using hnone⟩
    · exact h
  by_cases hnext : r = .occupyNext
  · subst hnext
    obtain rfl := eq_occupyNext_of_request hi
    rw [Machine.operationOf, opOccupyNext]
    split
    · exact h
    split
    · exact h
    next hidle =>
    split
    · exact h
    next hfull =>
    split
    · exact h
    split
    · exact h
    · exact (h.startOccupation (by simpa using hidle) (by simpa using hfull) p fun hbase => nomatch hbase)
  by_cases hend : r = .endOccupation
  · subst hend
    obtain rfl := eq_endOccupation_of_request hi
    rw [Machine.operationOf, opEnd]
    split
    · exact h
    split
    · exact h
    next hactive =>
    split
    · exact h
    · exact h.endAccepted hactive p
  by_cases habandon : r = .abandon
  · subst habandon
    obtain rfl := eq_abandon_of_request hi
    rw [Machine.operationOf, opAbandon]
    split
    · exact h
    split
    · exact h
    next hactive => exact h.abandonAccepted hactive p
  have hocc := operationOf_occ (s := s) hi hsample hoccupy hnext hend habandon
  by_cases hpurge : r = .purge
  · subst hpurge
    obtain ⟨q, rfl⟩ := eq_purge_of_request hi
    rw [Machine.operationOf]
    unfold opPurge
    split
    · exact h
    · obtain ⟨removed, hrem, hidle⟩ := s.purgeScan_suffix q.toNat s.log.records
      exact Machine.RecordsOk.suffix h hrem hidle
  by_cases hclose : r = .closeSurvey
  · subst hclose
    obtain rfl := eq_closeSurvey_of_request hi
    refine h.changed ?_ (by rw [hocc]) (operationOf_bases hi (by decide) (by decide))
    have hsame : s.log.Changed Record.SameTie s.log := ⟨id, by simp, fun r _ => .refl r⟩
    rw [Machine.operationOf]
    unfold opCloseSurvey
    split
    · exact hsame
    split_ifs
    iterate 3 exact hsame
    exact s.closeLoops_changed .refl uncloseRecord_sameTie
  by_cases hload : r = .loadBase
  · subst hload
    obtain ⟨id, v, rfl⟩ := eq_loadBase_of_request hi
    exact h.loadBase p id v
  by_cases hdrop : r = .dropBase
  · subst hdrop
    obtain ⟨id, rfl⟩ := eq_dropBase_of_request hi
    exact h.dropBase p id
  exact h.of_eq (operationOf_log hi hsample hoccupy hnext hend habandon hpurge hclose hr) (by rw [hocc])
    (operationOf_bases hi hload hdrop)

/-! ## The records through a restart (R140, R141) -/

/-- The records' invariant without the supplies: what holds of them whatever the main domain holds, then of the ACTIVE one. -/
def State.RecordsInv (s : State) : Prop :=
  s.log.wf ∧ (∀ r ∈ s.log.records, r.TieOk s.bases) ∧ (s.mainLive = true → s.log.ActiveIs s.occ.state.record) ∧
    (s.powered = true → s.startUp = some .mainDomain → ∀ r ∈ s.log.records, r.state ≠ .active)

theorem State.recordInv_iff (s : State) : s.recordInv ↔ s.supplyInv ∧ (s.mark = true → s.RecordsInv) := by
  constructor
  · rintro ⟨hsup, hlog, hact, htie⟩
    exact ⟨hsup, fun hm => ⟨hlog hm, fun r hr => ⟨(htie hm).1 r hr, (htie hm).2 r hr⟩, (hact hm).1, (hact hm).2⟩⟩
  · rintro ⟨hsup, h⟩
    exact ⟨hsup, fun hm => (h hm).1, fun hm => (h hm).2.2,
      fun hm => ⟨fun r hr => ((h hm).2.1 r hr).1, fun r hr => ((h hm).2.1 r hr).2⟩⟩

/-- The records' invariant looks at the log, the record that the controller names, the base table, the mark and the supplies alone. -/
theorem State.recordInv_of_eq {s t : State} (h : s.recordInv) (hl : t.log = s.log)
    (ho : t.occ.state.record = s.occ.state.record) (hb : t.bases = s.bases) (hm : t.mark = s.mark) (hv : t.supply = s.supply)
    (hu : t.startUp = s.startUp) : t.recordInv := by
  rw [State.recordInv_iff] at h ⊢
  unfold State.supplyInv State.RecordsInv State.mainLive State.powered at h ⊢
  rwa [hl, ho, hb, hm, hv, hu]

/-- While the main domain holds its own values the records' invariant is the one that the operations keep. -/
theorem State.recordInv_live {s t : State} (hlive : s.mainLive = true) (h : s.recordInv) (hm : t.mark = s.mark)
    (hv : t.supply = s.supply) (hu : t.startUp = s.startUp) (hop : s.RecordsOk → t.RecordsOk) : t.recordInv := by
  rw [State.recordInv_iff] at h ⊢
  obtain ⟨hsup, hrec⟩ := h
  refine ⟨by unfold State.supplyInv; rwa [hv], fun hmark => ?_⟩
  obtain ⟨hwf, hties, hact, -⟩ := hrec (hm ▸ hmark)
  obtain ⟨hwf', hties', hact'⟩ := hop ⟨hwf, hties, hact hlive⟩
  refine ⟨hwf', hties', fun _ => hact', fun _ hstage => ?_⟩
  rw [hu] at hstage
  simp [State.mainLive, hstage] at hlive

/-- A part that receives frames outside start-up has its main domain (R138). -/
theorem State.mainLive_of_receiving {s : State} (hsup : s.supplyInv) (hr : s.receiving = true) (hu : s.startUp = none) :
    s.mainLive = true := by
  simp only [State.receiving, Bool.and_eq_true, Bool.not_eq_true'] at hr
  have hdue : s.supply.restartDue = false := by
    by_contra hd
    rw [Bool.not_eq_false] at hd
    exact Bool.false_ne_true (hr.2.symm.trans (hsup hd).2)
  simp [State.mainLive, State.powered, hr.1, hdue, hu]

theorem State.boundary_record (s : State) : s.boundary.occ.state.record = s.occ.state.record := by
  have hgap (t : State) : t.countGap.occ.state.record = t.occ.state.record := by
    unfold State.countGap
    dsimp only
    split
    next ho => rw [ho]
    next q ho =>
      rw [ho]
      split_ifs
      · simp [State.gapExpires, OccState.record]
      · exact ho
      · exact ho
  have hstale (t : State) : t.countStale.occ.state.record = t.occ.state.record := by
    unfold State.countStale
    dsimp only
    split <;> rfl
  unfold State.boundary
  dsimp only
  split
  · rw [hstale, hgap]
    rfl
  · rfl

/-- What a restart completes is no longer ACTIVE, and a tie stays a tie (R140). -/
theorem abandonRecord_spec {b : List BaseEntry} {r : Record} (h : r.TieOk b) (now : Nat) (c : EndCause) :
    (abandonRecord now c r).TieOk b ∧ (abandonRecord now c r).state ≠ .active ∧ (abandonRecord now c r).seq = r.seq := by
  unfold abandonRecord
  split
  · exact ⟨⟨h.1, fun hc => nomatch hc⟩, (nomatch ·), rfl⟩
  next hidle => exact ⟨h, hidle, rfl⟩

theorem State.recordInv_restart {s : State} {c : Cause}
    (h : s.mark = true → s.log.wf ∧ ∀ r ∈ s.log.records, r.TieOk s.bases) : (s.beginRestart c).recordInv := by
  rw [State.recordInv_iff]
  refine ⟨(nomatch ·), fun hm => ?_⟩
  by_cases hc : c = .powerLost
  · subst hc
    exact ⟨⟨Nat.zero_le _, Nat.one_pos, (by decide : (1 : Nat) ≤ 4294967296), rfl⟩, fun _ hr => (nomatch hr),
      fun hl => absurd hl (by simp [State.mainLive, State.beginRestart]), fun _ _ _ hr => (nomatch hr)⟩
  · obtain ⟨-, hbases, -, -, hmark, -, hlog⟩ := s.beginRestart_kept hc
    obtain ⟨hwf, hties⟩ := h (hmark ▸ hm)
    have hchanged : s.log.Changed (fun x y => y = abandonRecord s.clock.value c.endCause x) (s.beginRestart c).log :=
      ⟨_, hlog, fun _ _ => rfl⟩
    have hdone : ∀ r ∈ (s.beginRestart c).log.records, r.TieOk s.bases ∧ r.state ≠ .active :=
      hchanged.forall hties fun x y hxy hx => by
        obtain ⟨htie, hidle, -⟩ := abandonRecord_spec hx s.clock.value c.endCause
        exact hxy ▸ ⟨htie, hidle⟩
    refine ⟨hchanged.wf hwf fun x y hxy => ?_, ?_, ?_, fun _ _ r hr => (hdone r hr).2⟩
    · rw [hxy, abandonRecord]
      split <;> rfl
    · rw [hbases]
      exact fun r hr => (hdone r hr).1
    · exact fun hl => absurd hl (by simp [State.mainLive, State.beginRestart])

theorem State.recordInv_stage {s : State} (hr : s.receiving = true) (h : s.recordInv) (b : Bool) : (s.takeStage b).recordInv := by
  rw [State.recordInv_iff] at h ⊢
  obtain ⟨hsup, hrec⟩ := h
  obtain ⟨-, hbases, -, -, hlog, hmark, -, hsupply, -⟩ := s.takeStage_frame b
  refine ⟨by unfold State.supplyInv; rwa [hsupply], fun hm => ?_⟩
  obtain ⟨hwf, hties, hact, hbegun⟩ := hrec (hmark ▸ hm)
  by_cases hstage : s.startUp = some .mainDomain
  · have hpowered : s.powered = true := by
      simp only [State.receiving, Bool.and_eq_true, Bool.not_eq_true'] at hr
      have hdue : s.supply.restartDue = false := by
        by_contra hd
        exact Bool.false_ne_true (hr.2.symm.trans (hsup (by simpa using hd)).2)
      simp [State.powered, hr.1, hdue]
    have htake : s.takeStage b = (s.resetMain b).setStartUp (some .constants) := by rw [State.takeStage, hstage]
    have hidle := hbegun hpowered hstage
    rw [htake]
    exact ⟨hwf, hties, fun _ => ⟨fun r hr => iff_of_false (hidle r hr) (nomatch ·), fun _ hc => (nomatch hc)⟩,
      fun _ hs => (nomatch hs)⟩
  · obtain ⟨-, -, -, hocc⟩ := State.takeStage_later hstage b
    have hnot : (s.takeStage b).startUp ≠ some .mainDomain := by
      unfold State.takeStage
      split
      next hu => simp [hu]
      next hu => exact absurd hu hstage
      all_goals simp [State.endStartUp]
    unfold State.RecordsInv
    rw [hlog, hbases, hocc]
    refine ⟨hwf, hties, fun hl => hact ?_, fun _ hs => absurd hs hnot⟩
    simp only [State.mainLive, State.powered, hsupply, Bool.and_eq_true, bne_iff_ne] at hl ⊢
    exact ⟨hl.1, hstage⟩

theorem keeps_recordInv : Keeps State.recordInv where
  ports := by
    rintro s t ⟨_, _, _, _, _, _, _, _, rfl⟩ h
    exact h
  request := by
    intro i p r s hi hr hrec hu h
    have hlive := State.mainLive_of_receiving h.1 hrec hu
    exact State.recordInv_live hlive h (operationOf_mark hi) (operationOf_supply hi hr) (operationOf_startUp hi hr)
      fun hok => hok.operationOf hi hr
  boundary := fun _ h => State.recordInv_of_eq h (by simp) (State.boundary_record _) (by simp) (by simp) (by simp) (by simp)
  tick := fun _ _ h => h
  closure := fun hlive _ h => State.recordInv_live hlive h (by simp) (by simp) (by simp) fun hok =>
    hok.changed (State.closureStep_changed .refl closeRecord_sameTie _) (by simp) (by simp)
  block := fun _ h => State.recordInv_of_eq h (by simp) (by simp) (by simp) (by simp) (by simp) (by simp)
  digest := fun _ _ h => h
  restart := fun _ _ _ h => State.recordInv_restart fun hm => by
    obtain ⟨hwf, hties, -, -⟩ := ((State.recordInv_iff _).1 h).2 hm
    exact ⟨hwf, hties⟩
  delay := by
    intro s hv hl h
    rw [State.recordInv_iff] at h ⊢
    refine ⟨fun _ => ⟨rfl, hl⟩, fun hm => ?_⟩
    obtain ⟨hwf, hties, -, -⟩ := h.2 hm
    exact ⟨hwf, hties, fun hc => absurd hc (by simp [State.mainLive, State.powered]),
      fun hc => absurd hc (by simp [State.powered])⟩
  fall := by
    intro s b _ h
    rw [State.recordInv_iff] at h ⊢
    refine ⟨(nomatch ·), fun hm => ?_⟩
    cases b with
    | false => cases hm
    | true =>
      obtain ⟨hwf, hties, -, -⟩ := h.2 hm
      exact ⟨hwf, hties, (nomatch ·), (nomatch ·)⟩
  vbak := by
    intro s h
    rw [State.recordInv_iff] at h ⊢
    unfold State.vbakFails
    dsimp only
    split
    · exact h
    · exact ⟨h.1, (nomatch ·)⟩
  hold := by
    intro s h
    rw [State.recordInv_iff] at h ⊢
    exact ⟨fun hd => ⟨(h.1 hd).1, rfl⟩, h.2⟩
  unhold := by
    intro s hv h
    rw [State.recordInv_iff] at h ⊢
    refine ⟨fun hd => absurd (h.1 hd).1 (by simp [hv]), h.2⟩
  image := fun _ h => h
  stage := fun hr h => State.recordInv_stage hr h _

/-- Settles O57: the four invariants hold together, and `Keeps` carries their conjunction from the operations to every step. -/
theorem stepKeepsTheRecords : Obligations.StepKeepsTheRecords := by
  intro s t hstep h
  exact keeps_recordInv.step (fun _ _ h => h) h hstep

end Sys2Proof.Machine

/-! SUPPORT. What every step keeps of the closure queue (section 6.6) and of the records' reductions (sections 6.5 and 6.6). -/

namespace Sys2Proof.Machine

/-! ## What the occupation requests can do -/

/-- OCCUPY leaves the state, or an occupation begins. -/
theorem opOccupy_state (p : Port) (k : Byte) (id lat lon : U32) (s : State) :
    (opOccupy p k id lat lon s).1 = s ∨ ∃ o, (opOccupy p k id lat lon s).1 = s.startOccupation p o := by
  unfold opOccupy
  split
  · exact .inl rfl
  split_ifs
  iterate 4 exact .inl rfl
  split
  · exact .inl rfl
  dsimp only
  split
  · exact .inr ⟨_, rfl⟩
  · exact .inl rfl

/-- OCCUPY NEXT leaves the state, or an occupation begins and the pending position is consumed. -/
theorem opOccupyNext_state (p : Port) (s : State) :
    (opOccupyNext p s).1 = s ∨ ∃ o, (opOccupyNext p s).1 = (s.startOccupation p o).setPendingPos none := by
  unfold opOccupyNext
  split_ifs
  iterate 3 exact .inl rfl
  split
  · exact .inl rfl
  split
  · exact .inl rfl
  · exact .inr ⟨_, rfl⟩

/-- END leaves the state, or completes the active record in an open survey where the closure queue has room (R79). -/
theorem opEnd_state (p : Port) (s : State) :
    (opEnd p s).1 = s ∨ ∃ r, s.inSurvey = true ∧ s.activeRecord = some r ∧ s.queueBlocks r = false ∧
      (opEnd p s).1 = s.endAccepted p r := by
  unfold opEnd
  split
  · exact .inl rfl
  next hopen =>
  split
  · exact .inl rfl
  next r hr =>
  split
  · exact .inl rfl
  next hfull => exact .inr ⟨r, by simpa using hopen, hr, by simpa using hfull, rfl⟩

/-! ## The closure queue (R117, R122) -/

/-- The closure queue's form, whatever the retention mark (R122). -/
def State.QueueOk (s : State) : Prop :=
  s.queue.length ≤ 4 ∧ s.queue.Pairwise (fun a b => a.loop < b.loop) ∧ (∀ e ∈ s.queue, e.loop < s.loop.counter) ∧
    (s.queue ≠ [] → s.inSurvey = true) ∧ (s.startUp.isSome = true → s.survey.lastCause = .powerLost → s.queue = [])

theorem State.QueueOk.of_empty {s : State} (h : s.queue = []) : s.QueueOk := by
  unfold State.QueueOk
  simp [h]

/-- A queue that stands keeps its form where a survey stays open and the loop counter does not fall. -/
theorem State.QueueOk.of_queue {s t : State} (h : s.QueueOk) (hq : t.queue = s.queue) (hc : s.loop.counter ≤ t.loop.counter)
    (hs : s.queue ≠ [] → s.inSurvey = true → t.inSurvey = true)
    (hu : s.queue ≠ [] → t.startUp.isSome = true → t.survey.lastCause = .powerLost →
      s.startUp.isSome = true ∧ s.survey.lastCause = .powerLost) : t.QueueOk := by
  obtain ⟨hlen, hpair, hlt, hopen, hlost⟩ := h
  unfold State.QueueOk
  rw [hq]
  refine ⟨hlen, hpair, fun e he => (hlt e he).trans_le hc, fun hne => hs hne (hopen hne), fun hstart hcause => ?_⟩
  by_contra hne
  obtain ⟨hstart', hcause'⟩ := hu hne hstart hcause
  exact hne (hlost hstart' hcause')

/-- The queue's form looks at the queue, the loop counter, the survey controller and start-up alone. -/
theorem State.QueueOk.of_eq {s t : State} (h : s.QueueOk) (hq : t.queue = s.queue) (hl : t.loop = s.loop)
    (hs : t.survey = s.survey) (hu : t.startUp = s.startUp) : t.QueueOk :=
  h.of_queue hq (by rw [hl]) (fun _ => by unfold State.inSurvey; rw [hs]; exact id) (fun _ => by rw [hs, hu]; exact And.intro)

/-- What the loop engine at END makes of the queue and the counter: they stand, a FIRST tie raises the counter, or a CLOSING tie queues
its closure under the counter's value and raises the counter (R116, R117). -/
theorem State.reduceEnded_queue (s : State) (r : Record) :
    ((s.reduceEnded r).queue = s.queue ∧ s.loop.counter ≤ (s.reduceEnded r).loop.counter) ∨
      (r.kind = .base ∧ r.quality.short = false ∧ s.loop.opening.isSome = true ∧
        (s.reduceEnded r).loop.counter = s.loop.counter + 1 ∧
        ∃ e, e.loop = s.loop.counter ∧ (s.reduceEnded r).queue = s.queue ++ [e]) := by
  unfold State.reduceEnded
  split
  · exact .inl ⟨rfl, le_rfl⟩
  split
  next hbase =>
    split
    · exact .inl ⟨rfl, Nat.le_succ _⟩
    next a ho =>
      refine .inr ⟨hbase.1, hbase.2, by simp [ho], ?_⟩
      unfold State.closingTie
      dsimp only
      split <;> exact ⟨rfl, _, rfl, rfl⟩
  · exact .inl ⟨rfl, le_rfl⟩

/-- An END that is not refused QUEUE_FULL keeps the queue's form (R79, R117). -/
theorem State.QueueOk.endAccepted {s : State} (h : s.QueueOk) (hopen : s.inSurvey = true) (hu : s.startUp = none) {p : Port}
    {r : Record} (hfull : s.queueBlocks r = false) : (s.endAccepted p r).QueueOk := by
  have hstart : (s.endAccepted p r).startUp = none := by simp [hu]
  have hsurvey : (s.endAccepted p r).inSurvey = true := by simpa [State.inSurvey] using hopen
  rcases s.reduceEnded_queue (s.endedRecord p r) with ⟨hq, hc⟩ | ⟨hkind, hshort, hloop, hc, e, he, hq⟩
  · exact h.of_queue hq hc (fun _ _ => hsurvey) fun _ hsome => by rw [hstart] at hsome; cases hsome
  · obtain ⟨-, hpair, hlt, -, -⟩ := h
    have hmin : s.store.work.settle.minCount ≤ s.occ.sums.n := by
      simp only [State.endedRecord, Quality.ended, Bool.or_eq_false_iff, decide_eq_false_iff_not, Nat.not_lt] at hshort
      exact hshort.2
    have hroom : s.queue.length < 4 := by
      simp only [State.endedRecord] at hkind
      simpa [State.queueBlocks, hkind, hmin, hloop] using hfull
    have hq' : (s.endAccepted p r).queue = s.queue ++ [e] := hq
    have hc' : (s.endAccepted p r).loop.counter = s.loop.counter + 1 := hc
    unfold State.QueueOk
    rw [hq', hc']
    refine ⟨by simp; omega, ?_, ?_, fun _ => hsurvey, fun hsome => by rw [hstart] at hsome; cases hsome⟩
    · rw [List.pairwise_append]
      exact ⟨hpair, List.pairwise_singleton _ _, fun a ha b hb => by rw [List.mem_singleton.1 hb, he]; exact hlt a ha⟩
    · intro x hx
      rcases List.mem_append.1 hx with hx | hx
      · exact (hlt x hx).trans (Nat.lt_succ_self _)
      · rw [List.mem_singleton.1 hx, he]
        exact Nat.lt_succ_self _

theorem State.survey_of_inSurvey {s : State} (h : s.inSurvey = true) : s.survey.state ≠ .unset ∧ s.survey.state ≠ .ready := by
  rcases (State.inSurvey_iff s).1 h with h | h <;> simp [h]

/-- OPEN SURVEY with a survey open is refused (R132). -/
theorem opOpenSurvey_of_inSurvey {s : State} (h : s.inSurvey = true) (p : Port) (n : U16) (id : U32) (step : Byte) :
    (opOpenSurvey p n id step s).1 = s := by
  cases p with
  | meter => rfl
  | survey => simp [opOpenSurvey, State.survey_of_inSurvey h]

/-- Only CLOSE SURVEY closes a survey. -/
theorem operationOf_inSurvey {s : State} {i : Instr} {p : Port} {r : Req} (hi : i.request = some (p, r)) (hr : r ≠ .softReset)
    (hclose : r ≠ .closeSurvey) (hs : s.inSurvey = true) : (operationOf i s).1.inSurvey = true := by
  by_cases hopen : r = .openSurvey
  · subst hopen
    obtain ⟨n, id, step, rfl⟩ := eq_openSurvey_of_request hi
    exact (congrArg State.inSurvey (opOpenSurvey_of_inSurvey hs p n id step)).trans hs
  by_cases hclock : r = .setClock
  · subst hclock
    obtain ⟨v, rfl⟩ := eq_setClock_of_request hi
    have hset (v : Nat) : (s.clockSetTo v).survey = s.survey := by
      unfold State.clockSetTo
      rw [State.leaveUnset_of_ne (by simpa using (State.survey_of_inSurvey hs).1)]
      rfl
    cases p with
    | meter => exact hs
    | survey =>
      rw [Machine.operationOf]
      unfold opSetClock
      dsimp only
      split
      · exact hs
      · simpa [State.inSurvey, hset] using hs
  by_cases hcommit : r = .commit
  · subst hcommit
    obtain rfl := eq_commit_of_request hi
    simp [operationOf, opCommit, hs]
  by_cases hresume : r = .resume
  · subst hresume
    obtain rfl := eq_resume_of_request hi
    rw [Machine.operationOf]
    unfold opResume
    split_ifs
    iterate 3 exact hs
    simp [State.inSurvey]
  by_cases hline : r = .setLine
  · subst hline
    obtain ⟨id, step, rfl⟩ := eq_setLine_of_request hi
    cases p with
    | meter => exact hs
    | survey =>
      rw [Machine.operationOf]
      unfold opSetLine
      split_ifs <;> exact hs
  have hstart (t : State) (o : Start) : (t.startOccupation p o).survey.state = t.survey.state := by
    unfold State.startOccupation State.advanceLine
    cases o.kind <;> simp
  by_cases hoccupy : r = .occupy
  · subst hoccupy
    obtain ⟨k, id, lat, lon, rfl⟩ := eq_occupy_of_request hi
    rw [Machine.operationOf]
    rcases opOccupy_state p k id lat lon s with h | ⟨o, h⟩ <;> rw [h]
    · exact hs
    · rwa [State.inSurvey, hstart]
  by_cases hnext : r = .occupyNext
  · subst hnext
    obtain rfl := eq_occupyNext_of_request hi
    rw [Machine.operationOf]
    rcases opOccupyNext_state p s with h | ⟨o, h⟩ <;> rw [h]
    · exact hs
    · rwa [State.inSurvey, State.setPendingPos_survey, hstart]
  have hsurvey := operationOf_survey (s := s) hi hclock hcommit hopen hclose hresume hline hoccupy hnext hr
  unfold State.inSurvey
  rwa [hsurvey]

/-- While a closure is queued in an open survey, no request but END changes the loop counter, and none closes the survey. -/
theorem operationOf_inSurvey_of_queue {s : State} {i : Instr} {p : Port} {r : Req} (hi : i.request = some (p, r))
    (hr : r ≠ .softReset) (hend : r ≠ .endOccupation) (hq : s.queue ≠ []) (hs : s.inSurvey = true) :
    (operationOf i s).1.inSurvey = true ∧ (operationOf i s).1.loop = s.loop := by
  by_cases hclose : r = .closeSurvey
  · subst hclose
    obtain rfl := eq_closeSurvey_of_request hi
    have hsame : (operationOf (.closeSurvey p) s).1 = s := by
      cases p with
      | meter => rfl
      | survey =>
        have hne : s.queue.isEmpty = false := by simpa using hq
        simp only [operationOf, opCloseSurvey, hs, hne, Bool.not_true, Bool.not_false, Bool.false_eq_true, if_false, if_true]
        split <;> rfl
    rw [hsame]
    exact ⟨hs, rfl⟩
  refine ⟨operationOf_inSurvey hi hr hclose hs, ?_⟩
  by_cases hopen : r = .openSurvey
  · subst hopen
    obtain ⟨n, id, step, rfl⟩ := eq_openSurvey_of_request hi
    exact congrArg State.loop (opOpenSurvey_of_inSurvey hs p n id step)
  exact operationOf_loop hi hopen hclose hend

theorem State.QueueOk.operationOf {s : State} (h : s.QueueOk) {i : Instr} {p : Port} {r : Req}
    (hi : i.request = some (p, r)) (hr : r ≠ .softReset) (hu : s.startUp = none) : (operationOf i s).1.QueueOk := by
  by_cases hend : r = .endOccupation
  · subst hend
    obtain rfl := eq_endOccupation_of_request hi
    rw [Machine.operationOf]
    rcases opEnd_state p s with hsame | ⟨x, hopen, -, hfull, hend⟩
    · rwa [hsame]
    · rw [hend]
      exact h.endAccepted hopen hu hfull
  have hq := operationOf_queue (s := s) hi hend
  by_cases hne : s.queue = []
  · exact .of_empty (hq.trans hne)
  · have ⟨_, _, _, hopen, _⟩ := h
    obtain ⟨hsurvey, hloop⟩ := operationOf_inSurvey_of_queue hi hr hend hne (hopen hne)
    refine h.of_queue hq (by rw [hloop]) (fun _ _ => hsurvey) fun _ hsome => ?_
    rw [operationOf_startUp hi hr, hu] at hsome
    cases hsome

theorem State.QueueOk.closureStep {s : State} (h : s.QueueOk) : s.closureStep.QueueOk := by
  unfold State.closureStep
  split
  next e rest p hq _ =>
    split
    · obtain ⟨hlen, hpair, hlt, hopen, hlost⟩ := h
      have htail : s.queue.tail ≠ [] → s.queue ≠ [] := fun hne hnil => hne (by rw [hnil]; rfl)
      exact ⟨by simp [State.closureDone]; omega, hpair.sublist (List.tail_sublist _),
        fun x hx => hlt x (List.mem_of_mem_tail hx), fun hne => hopen (htail hne),
        fun hsome hcause => by simp [State.closureDone, hlost hsome hcause]⟩
    · exact h.of_eq rfl rfl rfl rfl
  · exact h

/-- Stage 4 leaves an open survey open, unless the restart is a POWER_LOST one, when the queue is empty (R142). -/
theorem State.QueueOk.takeStage {s : State} (h : s.QueueOk) (b : Bool) : (s.takeStage b).QueueOk := by
  unfold State.takeStage
  split
  · exact h
  next hu => exact h.of_queue rfl le_rfl (fun _ => id) fun _ _ hc => ⟨by rw [hu]; rfl, hc⟩
  next hu => exact h.of_queue rfl le_rfl (fun _ => id) fun _ _ hc => ⟨by rw [hu]; rfl, hc⟩
  next hu =>
    refine h.of_queue rfl le_rfl (fun hne hopen => ?_) fun _ _ hc => ⟨by rw [hu]; rfl, hc⟩
    have hcause : s.survey.lastCause ≠ .powerLost := by
      obtain ⟨-, -, -, -, hlost⟩ := h
      exact fun hc => hne (hlost (by rw [hu]; rfl) hc)
    have hheld : (s.adjustSurvey.setStartUp (some .finish)).survey.state = .held := by
      have hadjust : (s.adjustSurvey.setStartUp (some .finish)).survey.state =
        restartedState s.survey.lastCause s.survey.state s.noneDefaulted := rfl
      rw [hadjust, restartedState_eq_soft hcause]
      rcases (State.inSurvey_iff s).1 hopen with hstate | hstate <;> rw [hstate] <;> rfl
    exact (State.inSurvey_iff _).2 (.inr hheld)
  · exact h.of_queue rfl le_rfl (fun _ => id) fun _ hsome => by cases hsome

theorem keeps_queueInv : Keeps State.queueInv := by
  refine Keeps.whileMarked State.QueueOk (ports := ?_) (request := fun hi hr _ hu h => h.operationOf hi hr hu)
    (boundary := fun h => h.of_eq (by simp) (by simp) (by simp) (by simp)) (tick := fun h => h)
    (closure := fun _ _ h => h.closureStep) (block := ?_) (digest := fun h => h)
    (lost := .of_empty rfl) (kept := ?_) (fall := ?_) (supply := fun h => h)
    (image := fun h => h) (stage := fun h => h.takeStage _)
  · rintro s t ⟨_, _, _, _, _, _, _, _, rfl⟩ h
    exact h
  · intro s h
    by_cases hne : s.queue = []
    · exact .of_empty (by simp [hne])
    · have hstate : s.survey.state ≠ .unset := by
        obtain ⟨-, -, -, hopen, -⟩ := h
        rcases (State.inSurvey_iff s).1 (hopen hne) with hx | hx <;> simp [hx]
      exact h.of_eq (by simp) (by simp) (State.blockWritten_survey hstate) (by simp)
  · intro s x c hc h
    obtain ⟨-, -, hloop, hqueue, -, hsurvey, -⟩ := (s.setSupply x).beginRestart_kept hc
    refine h.of_queue hqueue (by rw [hloop]; rfl) (fun _ => ?_) fun _ _ hcause => ?_
    · unfold State.inSurvey
      rw [hsurvey]
      exact id
    · rw [hsurvey] at hcause
      exact absurd hcause hc
  · intro s x n g h
    exact h.of_queue rfl le_rfl (fun _ => id) fun _ hsome => by cases hsome

/-! ## The reductions (R120, R121, R124) -/

/-- A change of a record that keeps its reduced value equal to its mean minus its drift. -/
def Record.KeepsWell (x y : Record) : Prop := x.reducedWell → y.reducedWell

theorem Record.KeepsWell.refl (r : Record) : r.KeepsWell r := id

theorem Record.keepsWell_quality (r : Record) (q : Quality) : r.KeepsWell { r with quality := q } := id

theorem uncloseRecord_keepsWell (a : Tie) (r : Record) : r.KeepsWell (uncloseRecord a r) := by
  unfold uncloseRecord
  split <;> exact id

theorem abandonRecord_keepsWell (now : Nat) (c : EndCause) (r : Record) : r.KeepsWell (abandonRecord now c r) := by
  unfold abandonRecord
  split <;> exact id

/-- The figures of a reduction that is no tie's (R120, R121, R124). -/
theorem reductionOf_figures {st : RedStatus} {mean drift : Int} {f : Figures}
    (h : (reductionOf st mean drift).figures = some f) : f.reduced = mean - f.drift := by
  cases h
  rfl

theorem closeRecord_keepsWell (e : ClosureEntry) (k : LoopBlock) (r : Record) : r.KeepsWell (closeRecord e k r) := by
  unfold closeRecord
  split
  next res hres =>
    split
    · intro _ _ res' f hres' hf
      obtain rfl : res = res' := Option.some.inj (hres.symm.trans hres')
      exact reductionOf_figures (st := .final) hf
    · exact id
  · exact id

/-- Every record of the log is reduced well, whatever the retention mark. -/
def State.ReducedOk (s : State) : Prop := ∀ r ∈ s.log.records, r.reducedWell

theorem State.ReducedOk.changed {s t : State} (h : s.ReducedOk) (hl : s.log.Changed Record.KeepsWell t.log) : t.ReducedOk :=
  hl.forall h fun _ _ hxy hx => hxy hx

theorem State.ReducedOk.of_log {s t : State} (h : s.ReducedOk) (hl : t.log = s.log) : t.ReducedOk := by
  unfold State.ReducedOk
  rwa [hl]

/-- A record that joins has no result yet (R65). -/
theorem State.ReducedOk.startOccupation {s : State} (h : s.ReducedOk) (p : Port) (o : Start) :
    (s.startOccupation p o).ReducedOk := by
  have hlog : (s.startOccupation p o).log.records = s.log.records ++ [s.newRecord p o] := by
    simp only [State.startOccupation, State.setOcc_log, State.advanceLine_frame, State.appendRecord]
    split <;> rfl
  unfold State.ReducedOk
  rw [hlog]
  intro r hr
  rcases List.mem_append.1 hr with hr | hr
  · exact h r hr
  · rw [List.mem_singleton.1 hr]
    exact fun _ _ _ hres => nomatch hres

/-- What END puts over its record is reduced well, or is a tie (R116, R120, R121). -/
theorem State.ReducedOk.endAccepted {s : State} (h : s.ReducedOk) (p : Port) (r : Record) : (s.endAccepted p r).ReducedOk := by
  obtain ⟨y, hlog, -, -, -, -, hresult, hred⟩ := s.reduceEnded_log (s.endedRecord p r)
  have hy : y.reducedWell := by
    intro hrole res f hres hf
    rw [hresult] at hres
    rcases hred with ⟨-, ⟨-, hnone⟩ | ⟨res', hsome, hstation⟩⟩ | ⟨-, htie, -⟩
    · rw [hnone] at hres
      cases hres
    · obtain rfl : res' = res := Option.some.inj (hsome.symm.trans hres)
      rw [hstation] at hf
      unfold stationReduction at hf
      split at hf
      · exact reductionOf_figures (st := .provisional) hf
      · exact reductionOf_figures (st := .untied) hf
    · exact absurd hrole htie
  have hlogs : (s.endAccepted p r).log = s.log.modify (s.endedRecord p r).seq fun _ => y := hlog
  unfold State.ReducedOk
  rw [hlogs]
  exact Log.modify_forall h fun _ _ _ => hy

theorem State.ReducedOk.operationOf {s : State} (h : s.ReducedOk) {i : Instr} {p : Port} {r : Req}
    (hi : i.request = some (p, r)) (hr : r ≠ .softReset) : (operationOf i s).1.ReducedOk := by
  by_cases hsample : r = .sample
  · subst hsample
    obtain ⟨q, x, tx, ty, dT, f, rfl⟩ := eq_sample_of_request hi
    cases p with
    | survey => exact h
    | meter =>
      obtain ⟨l, hl⟩ := opSample_meter s q x tx ty dT f
      rw [Machine.operationOf, hl]
      have hseq : (s.takeSequence q.toNat).ReducedOk :=
        h.changed (State.takeSequence_changed .refl Record.keepsWell_quality s _)
      exact State.ReducedOk.changed (hseq.of_log (by simp)) (State.handSample_changed .refl Record.keepsWell_quality _ l)
  by_cases hoccupy : r = .occupy
  · subst hoccupy
    obtain ⟨k, id, lat, lon, rfl⟩ := eq_occupy_of_request hi
    rw [Machine.operationOf]
    rcases opOccupy_state p k id lat lon s with hs | ⟨o, hs⟩ <;> rw [hs]
    · exact h
    · exact h.startOccupation p o
  by_cases hnext : r = .occupyNext
  · subst hnext
    obtain rfl := eq_occupyNext_of_request hi
    rw [Machine.operationOf]
    rcases opOccupyNext_state p s with hs | ⟨o, hs⟩ <;> rw [hs]
    · exact h
    · exact h.startOccupation p o
  by_cases hend : r = .endOccupation
  · subst hend
    obtain rfl := eq_endOccupation_of_request hi
    rw [Machine.operationOf]
    rcases opEnd_state p s with hs | ⟨x, -, -, -, hs⟩ <;> rw [hs]
    · exact h
    · exact h.endAccepted p x
  by_cases habandon : r = .abandon
  · subst habandon
    obtain rfl := eq_abandon_of_request hi
    rw [Machine.operationOf]
    unfold opAbandon
    split
    · exact h
    split
    · exact h
    next x hx => exact Log.modify_forall h fun _ _ _ => h x (State.activeRecord_spec hx).1
  by_cases hpurge : r = .purge
  · subst hpurge
    obtain ⟨q, rfl⟩ := eq_purge_of_request hi
    rw [Machine.operationOf]
    unfold opPurge
    split
    · exact h
    · obtain ⟨removed, hrem, -⟩ := s.purgeScan_suffix q.toNat s.log.records
      intro x hx
      exact h x (hrem ▸ List.mem_append_right _ hx)
  by_cases hclose : r = .closeSurvey
  · subst hclose
    obtain rfl := eq_closeSurvey_of_request hi
    rw [Machine.operationOf]
    unfold opCloseSurvey
    split
    · exact h
    split_ifs
    iterate 3 exact h
    exact h.changed (s.closeLoops_changed .refl uncloseRecord_keepsWell)
  exact h.of_log (operationOf_log hi hsample hoccupy hnext hend habandon hpurge hclose hr)

theorem keeps_reducedInv : Keeps State.reducedInv := by
  refine Keeps.whileMarked State.ReducedOk (ports := ?_) (request := fun hi hr _ _ h => h.operationOf hi hr)
    (boundary := fun h => h.of_log (by simp)) (tick := fun h => h)
    (closure := fun _ _ h => h.changed (State.closureStep_changed .refl closeRecord_keepsWell _))
    (block := fun h => h.of_log (by simp)) (digest := fun h => h) (lost := fun _ hr => nomatch hr) (kept := ?_)
    (fall := fun h => h) (supply := fun h => h) (image := fun h => h) (stage := fun h => h.of_log (by simp))
  · rintro s t ⟨_, _, _, _, _, _, _, _, rfl⟩ h
    exact h
  · intro s x c hc h
    obtain ⟨-, -, -, -, -, -, hlog⟩ := (s.setSupply x).beginRestart_kept hc
    exact h.changed ⟨_, hlog, fun r _ => abandonRecord_keepsWell _ _ r⟩

/-- Settles O58: the queue's form is kept because END is refused where the queue is full and a survey with closures queued is not closed;
the reductions because only END and a closure write figures, each from the record's own mean. -/
theorem stepKeepsQueueAndReductions : Obligations.StepKeepsQueueAndReductions := fun _ _ hstep =>
  ⟨fun h => keeps_queueInv.step (fun _ _ h => h) h hstep, fun h => keeps_reducedInv.step (fun _ _ h => h) h hstep⟩

end Sys2Proof.Machine

/-! SUPPORT. What every step keeps of the constants store: the working copy in range, and the blocks that are not dirty in agreement with
their images (chapter 8). -/

namespace Sys2Proof.Machine

/-! ## Items written, and the blocks they leave (R148) -/

/-- The block to which the values of an item belong (R163). -/
def ItemValue.block : ItemValue → Block
  | .calHeader .. => .cal
  | .calInterval .. => .cal
  | .sensor .. => .sensor
  | .tideHeader .. => .tide
  | .constituent .. => .tide
  | .settle .. => .settle
  | .loop .. => .loop

/-- An item written leaves the other blocks. -/
theorem Constants.agree_write_ne {c d : Constants} {v : ItemValue} {b : Block} (h : b ≠ v.block) (item : Nat) :
    c.agree (d.write item v) b ↔ c.agree d b := by
  cases v with
  | calHeader | calInterval =>
    cases b with
    | cal => exact absurd rfl h
    | sensor | tide | settle | loop => exact Iff.rfl
  | sensor =>
    cases b with
    | sensor => exact absurd rfl h
    | cal | tide | settle | loop => exact Iff.rfl
  | tideHeader | constituent =>
    cases b with
    | tide => exact absurd rfl h
    | cal | sensor | settle | loop => exact Iff.rfl
  | settle =>
    cases b with
    | settle => exact absurd rfl h
    | cal | sensor | tide | loop => exact Iff.rfl
  | loop =>
    cases b with
    | loop => exact absurd rfl h
    | cal | sensor | tide | settle => exact Iff.rfl

/-- The values that WRITE ITEM accepts are in range, and belong to the block it names. -/
theorem acceptedValue_spec {w : ItemWrite} {v : ItemValue} (h : acceptedValue w = some v) :
    v.inRange = true ∧ writtenBlock w = some v.block := by
  unfold acceptedValue at h
  split at h
  next x hx =>
    split_ifs at h with hrange
    obtain rfl := Option.some.inj h
    refine ⟨hrange, ?_⟩
    cases w with
    | calInterval | constituent =>
      simp only [writtenValue, Option.ite_none_right_eq_some, Option.some.injEq] at hx
      obtain ⟨-, rfl⟩ := hx
      rfl
    | tideHeader m enable delta =>
      simp only [writtenValue] at hx
      split_ifs at hx <;> · cases hx; rfl
    | absent | absentBlock => cases hx
    | calHeader | sensor | settle | loop => cases hx; rfl
  next => cases h

theorem Constants.agree_refl (c : Constants) (b : Block) : c.agree c b := by cases b <;> rfl

/-! ## The store's agreement with its images (R146, R152, R155, R156) -/

/-- The working copy is in range, and a block that is not dirty is what its image holds, whatever the supplies. -/
def State.StoreOk (s : State) : Prop :=
  s.store.work.inRange ∧ ∀ b, s.store.dirty.get b = false → s.nv.constants.agree s.store.work b

theorem State.StoreOk.of_eq {s t : State} (h : s.StoreOk) (hw : t.store.work = s.store.work)
    (hd : t.store.dirty = s.store.dirty) (hn : t.nv = s.nv) : t.StoreOk := by
  unfold State.StoreOk
  rwa [hw, hd, hn]

theorem State.StoreOk.commitDone {s : State} (h : s.StoreOk) (w : Bool) : (s.commitDone w).StoreOk :=
  h.of_eq (by simp [State.commitDone]) (by simp [State.commitDone]) (by simp)

/-- The commit keeps the agreement: an equal block agrees with its image, and one that differs is dirty, or has no valid image to spoil. -/
theorem State.StoreOk.commitFrom {s : State} (h : s.StoreOk) (w k : Bool) (bs : List Block) : (s.commitFrom w k bs).StoreOk := by
  induction bs generalizing s with
  | nil => exact h.commitDone w
  | cons b rest ih =>
    have ⟨hrange, hagree⟩ := h
    cases hholds : s.nv.holds s.store.work b with
    | true =>
      rw [State.commitFrom, if_pos hholds]
      refine ih ⟨hrange, fun c hc => ?_⟩
      simp only [Store.unchanged, State.setStore_store, State.setStore_nv, PerBlock.get_set] at hc ⊢
      by_cases hcb : c = b
      · exact hcb ▸ Images.holds_agree hholds
      · exact hagree c (by rwa [if_neg hcb] at hc)
    | false =>
      rw [State.commitFrom_cons w k rest hholds]
      refine ⟨hrange, fun c hc => ?_⟩
      have hc' := hagree c hc
      cases k with
      | true => exact hc'
      | false =>
        by_cases hcb : c = b
        · subst hcb
          exact Images.spoil_agree hc' hholds
        · exact (Images.spoil_agree_ne hcb).2 hc'

theorem State.StoreOk.blockWritten {s : State} (h : s.StoreOk) : s.blockWritten.StoreOk := by
  unfold State.blockWritten
  split
  next b rest _ =>
    obtain ⟨hrange, hagree⟩ := h
    refine State.StoreOk.commitFrom (s := (s.setNv (s.nv.write s.store.work b)).setStore (s.store.written b))
      ⟨hrange, fun c hc => ?_⟩ _ _ _
    simp only [Store.written, State.setStore_store, PerBlock.get_set] at hc ⊢
    by_cases hcb : c = b
    · exact hcb ▸ Images.write_agree hrange b
    · exact (Images.write_agree_ne hcb).2 (hagree c (by rwa [if_neg hcb] at hc))
  · exact h

theorem State.StoreOk.reload {s : State} {t : Store} (hw : t.work = s.nv.constants) : (s.setStore t).StoreOk := by
  refine ⟨?_, fun b _ => ?_⟩
  · rw [State.setStore_store, hw]
    exact Images.constants_inRange _
  · rw [State.setStore_store, hw]
    exact Constants.agree_refl _ b

theorem State.StoreOk.writeItem {s : State} (h : s.StoreOk) (p : Port) (w : ItemWrite) : (opWriteItem p w s).1.StoreOk := by
  unfold opWriteItem
  split
  · exact h
  next b hb =>
    split_ifs
    iterate 3 exact h
    split
    · exact h
    next v hv =>
      obtain ⟨hv', hblock⟩ := acceptedValue_spec hv
      obtain rfl : b = v.block := Option.some.inj (hb.symm.trans hblock)
      obtain ⟨hrange, hagree⟩ := h
      refine ⟨Constants.write_inRange hrange _ v hv', fun c hc => ?_⟩
      simp only [accept_state, Store.write, State.setStore_store, PerBlock.get_set] at hc
      split_ifs at hc with hcb
      exact (Constants.agree_write_ne hcb _).2 (hagree c hc)

theorem State.StoreOk.operationOf {s : State} (h : s.StoreOk) {i : Instr} {p : Port} {r : Req}
    (hi : i.request = some (p, r)) (hr : r ≠ .softReset) : (operationOf i s).1.StoreOk := by
  by_cases hwrite : r = .writeItem
  · subst hwrite
    obtain ⟨w, rfl⟩ := eq_writeItem_of_request hi
    exact h.writeItem p w
  by_cases hcommit : r = .commit
  · subst hcommit
    obtain rfl := eq_commit_of_request hi
    rw [Machine.operationOf]
    unfold opCommit
    split_ifs
    iterate 3 exact h
    split
    · exact h
    · exact h.commitFrom _ _ _
  by_cases hdiscard : r = .discard
  · subst hdiscard
    obtain rfl := eq_discard_of_request hi
    rw [Machine.operationOf]
    unfold opDiscard
    split_ifs
    iterate 2 exact h
    exact .reload rfl
  have hstore := operationOf_store (s := s) hi hwrite hcommit hdiscard hr
  exact h.of_eq (by rw [hstore]) (by rw [hstore]) (operationOf_nv hi hcommit)

/-- The store's invariant where supplies and start-up stand. -/
theorem State.storeInv_of_op {s t : State} (h : s.storeInv) (hv : t.supply = s.supply) (hu : t.startUp = s.startUp)
    (hop : s.StoreOk → t.StoreOk) : t.storeInv := fun hlive =>
  hop (h (by unfold State.storeLive State.mainLive State.powered at hlive ⊢; rwa [hv, hu] at hlive))

theorem State.storeInv_of_not_powered {s : State} (h : s.powered = false) : s.storeInv := fun hlive => by
  simp [State.storeLive, State.mainLive, h] at hlive

/-- Stage 3 brings the agreement about; the stages after it leave the store (R139, R156). -/
theorem State.storeInv_stage {s : State} (h : s.storeInv) (b : Bool) : (s.takeStage b).storeInv := by
  unfold State.takeStage
  split
  · exact h
  · exact fun hlive => by simp [State.storeLive] at hlive
  · exact fun _ => State.StoreOk.reload (s := s) rfl
  next hu =>
    refine fun hlive => h ?_
    simp only [State.storeLive, State.mainLive, hu, Bool.and_eq_true] at hlive ⊢
    exact ⟨⟨hlive.1.1, rfl⟩, rfl⟩
  next hu =>
    refine fun hlive => h ?_
    simp only [State.storeLive, State.mainLive, hu, Bool.and_eq_true] at hlive ⊢
    exact ⟨⟨hlive.1.1, rfl⟩, rfl⟩

theorem keeps_storeInv : Keeps State.storeInv where
  ports := by
    rintro s t ⟨_, _, _, _, _, _, _, _, rfl⟩ h
    exact h
  request := fun hi hr _ _ h =>
    State.storeInv_of_op h (operationOf_supply hi hr) (operationOf_startUp hi hr) fun hok => hok.operationOf hi hr
  boundary := fun _ h => State.storeInv_of_op h (by simp) (by simp) fun hok => hok.of_eq (by simp) (by simp) (by simp)
  tick := fun _ _ h => h
  closure := fun _ _ h => State.storeInv_of_op h (by simp) (by simp) fun hok => hok.of_eq (by simp) (by simp) (by simp)
  block := fun _ h => State.storeInv_of_op h (by simp) (by simp) fun hok => hok.blockWritten
  digest := fun _ _ h => State.storeInv_of_op h rfl rfl fun hok => hok.of_eq rfl rfl rfl
  restart := fun _ _ _ _ hlive => by simp [State.storeLive, State.mainLive, State.beginRestart] at hlive
  delay := fun _ _ _ => State.storeInv_of_not_powered (by simp [State.powered])
  fall := fun _ _ => State.storeInv_of_not_powered (by simp [State.powered, State.vddFalls])
  vbak := by
    intro s h
    cases hv : s.supply.vdd with
    | true =>
      have hsame : s.vbakFails = s.setSupply { s.supply with vbak := false } := if_pos hv
      rw [hsame]
      exact h
    | false =>
      have hlost : s.vbakFails.supply = { s.supply with vbak := false } := by simp [State.vbakFails, hv]
      exact State.storeInv_of_not_powered (by rw [State.powered, hlost]; simp [hv])
  hold := fun h => h
  unhold := fun _ h => h
  image := fun hv _ => State.storeInv_of_not_powered (by simp [State.powered, hv])
  stage := fun _ h => State.storeInv_stage h _

/-- Settles O59: every item written is in range and makes its block dirty, every other change of the store or of an image brings the two
together, and images are lost only while the store is not live. -/
theorem stepKeepsTheStore : Obligations.StepKeepsTheStore := fun _ _ hstep h =>
  keeps_storeInv.step (fun _ _ h => h) h hstep

end Sys2Proof.Machine

/-! SUPPORT. A request's operation does not look at its port's transfer state: what it does on a ready port is what it does to the state
as it stands (R157, R159, R160). -/

namespace Sys2Proof.Machine

/-! ## What taking a request leaves -/

section
variable (s : State) (p : Port)

@[simp] theorem State.opened_survey : (s.opened p).survey = s.survey := by cases p <;> rfl
@[simp] theorem State.opened_bases : (s.opened p).bases = s.bases := by cases p <;> rfl
@[simp] theorem State.opened_loop : (s.opened p).loop = s.loop := by cases p <;> rfl
@[simp] theorem State.opened_queue : (s.opened p).queue = s.queue := by cases p <;> rfl
@[simp] theorem State.opened_log : (s.opened p).log = s.log := by cases p <;> rfl
@[simp] theorem State.opened_cache : (s.opened p).cache = s.cache := by cases p <;> rfl
@[simp] theorem State.opened_occ : (s.opened p).occ = s.occ := by cases p <;> rfl
@[simp] theorem State.opened_pendingPos : (s.opened p).pendingPos = s.pendingPos := by cases p <;> rfl
@[simp] theorem State.opened_nv : (s.opened p).nv = s.nv := by cases p <;> rfl
@[simp] theorem State.opened_startUp : (s.opened p).startUp = s.startUp := by cases p <;> rfl
@[simp] theorem State.opened_events (q : Port) : (s.opened p).events q = s.events q := by cases p <;> cases q <;> rfl
@[simp] theorem State.opened_mask (q : Port) : (s.opened p).mask q = s.mask q := by cases p <;> cases q <;> rfl
@[simp] theorem State.opened_cursor (q : Port) : (s.opened p).cursor q = s.cursor q := by cases p <;> cases q <;> rfl
@[simp] theorem State.opened_expected : (s.opened p).meter.expected = s.meter.expected := by cases p <;> rfl
@[simp] theorem State.opened_inSurvey : (s.opened p).inSurvey = s.inSurvey := by cases p <;> rfl
@[simp] theorem State.opened_activeRecord : (s.opened p).activeRecord = s.activeRecord := by cases p <;> rfl
@[simp] theorem State.opened_noneDefaulted : (s.opened p).noneDefaulted = s.noneDefaulted := by cases p <;> rfl

/-! ## The updates that stand beside it -/

@[simp] theorem State.opened_setClock (x : Clock) : (s.opened p).setClock x = (s.setClock x).opened p := by cases p <;> rfl
@[simp] theorem State.opened_setSurvey (x : SurveyCtl) : (s.opened p).setSurvey x = (s.setSurvey x).opened p := by
  cases p <;> rfl
@[simp] theorem State.opened_setBases (x : List BaseEntry) : (s.opened p).setBases x = (s.setBases x).opened p := by
  cases p <;> rfl
@[simp] theorem State.opened_setLoop (x : LoopCtx) : (s.opened p).setLoop x = (s.setLoop x).opened p := by cases p <;> rfl
@[simp] theorem State.opened_setQueue (x : List ClosureEntry) : (s.opened p).setQueue x = (s.setQueue x).opened p := by
  cases p <;> rfl
@[simp] theorem State.opened_setLog (x : Log) : (s.opened p).setLog x = (s.setLog x).opened p := by cases p <;> rfl
@[simp] theorem State.opened_setChain (x : Chain) : (s.opened p).setChain x = (s.setChain x).opened p := by cases p <;> rfl
@[simp] theorem State.opened_setCache (x : Option CacheEntry) : (s.opened p).setCache x = (s.setCache x).opened p := by
  cases p <;> rfl
@[simp] theorem State.opened_setOcc (x : Occupation) : (s.opened p).setOcc x = (s.setOcc x).opened p := by cases p <;> rfl
@[simp] theorem State.opened_setClosurePos (x : Option Nat) : (s.opened p).setClosurePos x = (s.setClosurePos x).opened p := by
  cases p <;> rfl
@[simp] theorem State.opened_setPendingPos (x : Option Position) :
    (s.opened p).setPendingPos x = (s.setPendingPos x).opened p := by cases p <;> rfl
@[simp] theorem State.opened_setStore (x : Store) : (s.opened p).setStore x = (s.setStore x).opened p := by cases p <;> rfl
@[simp] theorem State.opened_setNv (x : Images) : (s.opened p).setNv x = (s.setNv x).opened p := by cases p <;> rfl
@[simp] theorem State.opened_raise (e : Event) : (s.opened p).raise e = (s.raise e).opened p := by cases p <;> rfl
@[simp] theorem State.opened_setEvents (q : Port) (w : U16) : (s.opened p).setEvents q w = (s.setEvents q w).opened p := by
  cases p <;> cases q <;> rfl
@[simp] theorem State.opened_setMask (q : Port) (w : U16) : (s.opened p).setMask q w = (s.setMask q w).opened p := by
  cases p <;> cases q <;> rfl
@[simp] theorem State.opened_setCursor (q : Port) (c : Option Nat) :
    (s.opened p).setCursor q c = (s.setCursor q c).opened p := by cases p <;> cases q <;> rfl

@[simp] theorem State.opened_leaveUnset : (s.opened p).leaveUnset = s.leaveUnset.opened p := by
  unfold State.leaveUnset
  simp only [State.opened_survey, State.opened_clock, State.opened_noneDefaulted, State.opened_setSurvey, State.opened_raise]
  split_ifs <;> rfl

@[simp] theorem State.opened_markActive (f : Quality → Quality) : (s.opened p).markActive f = (s.markActive f).opened p := by
  unfold State.markActive
  simp only [State.opened_occ, State.opened_log, State.opened_setLog]
  split <;> rfl

@[simp] theorem State.opened_takeSequence (n : Nat) : (s.opened p).takeSequence n = (s.takeSequence n).opened p := by
  have hset : (s.opened p).setMeter { (s.opened p).meter with expected := some n } =
      (s.setMeter { s.meter with expected := some n }).opened p := by cases p <;> rfl
  unfold State.takeSequence
  rw [hset, State.opened_expected]
  unfold State.reportLoss
  dsimp only
  simp only [State.opened_chain, State.opened_occ, State.opened_setChain, State.opened_setOcc, State.opened_markActive]
  split_ifs <;> rfl

@[simp] theorem State.opened_correctSample (l : Live) (c : Option CacheEntry) :
    (s.opened p).correctSample l c = (s.correctSample l c).opened p := by
  unfold State.correctSample
  simp

@[simp] theorem State.opened_handSample (l : Live) : (s.opened p).handSample l = (s.handSample l).opened p := by
  unfold State.handSample State.settlingSample State.settledSample
  simp only [State.opened_occ, State.opened_store, State.opened_setOcc, State.opened_raise, State.opened_markActive]
  split
  · rfl
  · split_ifs <;> rfl
  · split_ifs <;> rfl

@[simp] theorem State.opened_tideNow : (s.opened p).tideNow = s.tideNow := by
  simp [State.tideNow, State.positionInForce]

@[simp] theorem State.opened_startOccupation (q : Port) (o : Start) :
    (s.opened p).startOccupation q o = (s.startOccupation q o).opened p := by
  have hrecord : (s.opened p).newRecord q o = s.newRecord q o := by simp [State.newRecord]
  unfold State.startOccupation State.advanceLine State.appendRecord
  rw [hrecord]
  dsimp only
  simp only [State.opened_log, State.opened_occ, State.opened_setLog, State.opened_raise]
  cases o.kind <;> · dsimp only; split_ifs <;> simp

@[simp] theorem State.opened_endAccepted (q : Port) (r : Record) :
    (s.opened p).endAccepted q r = (s.endAccepted q r).opened p := by
  have hrecord : (s.opened p).endedRecord q r = s.endedRecord q r := by simp [State.endedRecord]
  unfold State.endAccepted
  rw [hrecord]
  generalize s.endedRecord q r = x
  have hreduce : (s.opened p).reduceEnded x = (s.reduceEnded x).opened p := by
    unfold State.reduceEnded State.firstTie State.closingTie State.putRecord
    simp only [State.opened_bases, State.opened_loop, State.opened_queue, State.opened_log, State.opened_store,
      State.opened_setLog, State.opened_setLoop, State.opened_setQueue, State.opened_setClosurePos, State.opened_raise]
    split
    · rfl
    · split
      · split
        · rfl
        · split_ifs <;> exact State.opened_raise _ _ _
      · rfl
  rw [hreduce]
  simp [State.idleOccupation]

@[simp] theorem State.opened_abandonAccepted (q : Port) (r : Record) :
    (s.opened p).abandonAccepted q r = (s.abandonAccepted q r).opened p := by
  simp [State.abandonAccepted, State.abandonedRecord, State.putRecord, State.idleOccupation]

@[simp] theorem State.opened_closeLoops : (s.opened p).closeLoops = s.closeLoops.opened p := by
  unfold State.closeLoops
  simp only [State.opened_loop, State.opened_log, State.opened_setLog]
  split <;> simp

@[simp] theorem State.opened_commitFrom (w k : Bool) (bs : List Block) :
    (s.opened p).commitFrom w k bs = (s.commitFrom w k bs).opened p := by
  induction bs generalizing s with
  | nil => simp [State.commitFrom, State.commitDone]
  | cons b rest ih =>
    unfold State.commitFrom
    simp only [State.opened_nv, State.opened_store, State.opened_setStore, State.opened_setNv, ih]
    split_ifs <;> simp

@[simp] theorem State.opened_purgeScan (q : Nat) (rs : List Record) : (s.opened p).purgeScan q rs = s.purgeScan q rs := by
  have hstop (r : Record) : (s.opened p).purgeStop q r = s.purgeStop q r := by cases p <;> rfl
  induction rs with
  | nil => rfl
  | cons r rest ih =>
    unfold State.purgeScan
    rw [hstop, ih]

end

/-! ## The operations -/

/-- What an operation gives, with a port's transfer state as it is where the operation runs. -/
def Served.opened (x : Served) (p : Port) : Served := (x.1.opened p, x.2)

section
variable (s : State) (p : Port)

@[simp] theorem refuse_opened (st : Status) : refuse (s.opened p) st = Served.opened (refuse s st) p := rfl

@[simp] theorem accept_opened (pl : Payload) : accept (s.opened p) pl = Served.opened (accept s pl) p := rfl

/-- What an operation gives commutes with a choice between two outcomes. -/
theorem Served.opened_ite (c : Prop) [Decidable c] (x y : Served) :
    Served.opened (if c then x else y) p = if c then x.opened p else y.opened p := by split_ifs <;> rfl

theorem opSample_opened (q : Port) (n : Byte) (r : U32) (tx ty dT : U16) (f : Byte) :
    opSample q n r tx ty dT f (s.opened p) = (opSample q n r tx ty dT f s).opened p := by
  have hlive (t : State) (tide : TideTerm) : (t.opened p).liveOf n.toNat r.toNat (sampleField tx) (sampleField ty)
      (sampleField dT) (!notLocked f) tide =
        t.liveOf n.toNat r.toNat (sampleField tx) (sampleField ty) (sampleField dT) (!notLocked f) tide := by
    simp [State.liveOf]
  cases q with
  | survey => rfl
  | meter => simp [opSample, hlive]

theorem opSetClock_opened (q : Port) (v : U32) : opSetClock q v (s.opened p) = (opSetClock q v s).opened p := by
  cases q with
  | meter => rfl
  | survey => simp [opSetClock, State.clockSetTo, Served.opened_ite]

theorem opWriteItem_opened (q : Port) (w : ItemWrite) : opWriteItem q w (s.opened p) = (opWriteItem q w s).opened p := by
  unfold opWriteItem
  cases writtenBlock w with
  | none => rfl
  | some b => cases acceptedValue w <;> simp [Served.opened_ite]

theorem opReadItem_opened (b i : Byte) : opReadItem b i (s.opened p) = (opReadItem b i s).opened p := by
  unfold opReadItem
  rw [State.opened_store]
  cases blockOf b <;> cases s.store.work.read b i <;> rfl

theorem opCommit_opened : opCommit (s.opened p) = (opCommit s).opened p := by
  unfold opCommit
  rw [State.opened_store]
  cases s.store.toCommit.find? fun b => !s.store.work.valid b with
  | none => simp [Served.opened_ite]
  | some b =>
    simp only [State.opened_inSurvey, refuse_opened, Served.opened_ite]
    rfl

theorem opEnd_opened (q : Port) : opEnd q (s.opened p) = (opEnd q s).opened p := by
  have hblocks (r : Record) : (s.opened p).queueBlocks r = s.queueBlocks r := by simp [State.queueBlocks]
  unfold opEnd
  rw [State.opened_activeRecord]
  cases s.activeRecord <;> simp [Served.opened_ite, hblocks]

theorem opAbandon_opened (q : Port) : opAbandon q (s.opened p) = (opAbandon q s).opened p := by
  unfold opAbandon
  rw [State.opened_activeRecord]
  cases s.activeRecord <;> simp [Served.opened_ite]

theorem opOccupy_opened (q : Port) (k : Byte) (id lat lon : U32) :
    opOccupy q k id lat lon (s.opened p) = (opOccupy q k id lat lon s).opened p := by
  cases q with
  | meter => rfl
  | survey => cases hk : kindOf k <;> simp [opOccupy, Served.opened_ite, hk]

theorem opOccupyNext_opened (q : Port) : opOccupyNext q (s.opened p) = (opOccupyNext q s).opened p := by
  have hpos : (s.opened p).nextPosition = s.nextPosition := by simp [State.nextPosition]
  unfold opOccupyNext
  rw [hpos, State.opened_survey]
  cases s.survey.nextId <;> cases s.nextPosition <;> simp [Served.opened_ite]

theorem opReadLogNext_opened (q : Port) : opReadLogNext q (s.opened p) = (opReadLogNext q s).opened p := by
  unfold opReadLogNext
  rw [State.opened_cursor]
  cases s.cursor q <;> simp [State.readFrom, Served.opened_ite]

theorem opLoadBase_opened (q : Port) (id v : U32) : opLoadBase q id v (s.opened p) = (opLoadBase q id v s).opened p := by
  cases q with
  | meter => rfl
  | survey => simp [opLoadBase, State.baseInUse, Served.opened_ite]

theorem opDropBase_opened (q : Port) (id : U32) : opDropBase q id (s.opened p) = (opDropBase q id s).opened p := by
  cases q with
  | meter => rfl
  | survey => simp [opDropBase, State.baseInUse, Served.opened_ite]

theorem opOpenSurvey_opened (q : Port) (n : U16) (id : U32) (step : Byte) :
    opOpenSurvey q n id step (s.opened p) = (opOpenSurvey q n id step s).opened p := by
  cases q with
  | meter => rfl
  | survey => simp [opOpenSurvey, State.openLoops, Served.opened_ite]

theorem opCloseSurvey_opened (q : Port) : opCloseSurvey q (s.opened p) = (opCloseSurvey q s).opened p := by
  cases q with
  | meter => rfl
  | survey => simp [opCloseSurvey, State.closedState, Served.opened_ite]

theorem opSetLine_opened (q : Port) (id : U32) (step : Byte) :
    opSetLine q id step (s.opened p) = (opSetLine q id step s).opened p := by
  cases q with
  | meter => rfl
  | survey => simp [opSetLine, Served.opened_ite]

theorem opSetPosition_opened (q : Port) (k : Byte) (lat lon : U32) :
    opSetPosition q k lat lon (s.opened p) = (opSetPosition q k lat lon s).opened p := by
  cases q with
  | meter => rfl
  | survey => simp [opSetPosition, Served.opened_ite]

theorem opPurge_opened (q : Port) (n : U32) : opPurge q n (s.opened p) = (opPurge q n s).opened p := by
  cases q with
  | meter => rfl
  | survey => simp [opPurge]

/-- Every operation but SOFT RESET's does to a port's state with a request taken what it does to the state as it stands. -/
theorem operationOf_opened {i : Instr} {q : Port} {r : Req} (hi : i.request = some (q, r)) (hr : r ≠ .softReset) :
    operationOf i (s.opened p) = (operationOf i s).opened p := by
  cases i <;> simp only [Instr.request, reduceCtorEq, Option.some.injEq, Prod.mk.injEq] at hi <;>
    obtain ⟨rfl, rfl⟩ := hi
  case sample => exact opSample_opened s p ..
  case readLive => simp [operationOf, opReadLive, State.liveReport]
  case status => simp [operationOf, opStatus]
  case readClock => simp [operationOf, opReadClock]
  case setClock => exact opSetClock_opened s p ..
  case readEvents => simp [operationOf, opReadEvents]
  case setMask => simp [operationOf, opSetMask]
  case readMask => simp [operationOf, opReadMask]
  case readItem => exact opReadItem_opened s p ..
  case writeItem => exact opWriteItem_opened s p ..
  case commit => exact opCommit_opened s p
  case discard => simp [operationOf, opDiscard, Served.opened_ite]
  case readDigest => simp [operationOf, opReadDigest]
  case openSurvey => exact opOpenSurvey_opened s p ..
  case closeSurvey => exact opCloseSurvey_opened s p ..
  case resume => simp [operationOf, opResume, Served.opened_ite]
  case setLine => exact opSetLine_opened s p ..
  case setPosition => exact opSetPosition_opened s p ..
  case occupy => exact opOccupy_opened s p ..
  case occupyNext => exact opOccupyNext_opened s p ..
  case endOccupation => exact opEnd_opened s p ..
  case abandon => exact opAbandon_opened s p ..
  case readLogFrom => simp [operationOf, opReadLogFrom, State.readFrom]
  case readLogNext => exact opReadLogNext_opened s p ..
  case purge => exact opPurge_opened s p ..
  case loadBase => exact opLoadBase_opened s p ..
  case dropBase => exact opDropBase_opened s p ..
  case readBases => simp [operationOf, opReadBases, State.baseInUse]
  case softReset => exact absurd rfl hr

end

/-- A request that reaches a ready port does what its operation does to the state as it stands, and is answered (R157, R160). -/
theorem exec_ready_served {s t : State} {i : Instr} {p : Port} {r : Req} {a : Response} (h : i.request = some (p, r))
    (hsoft : r ≠ .softReset) (hr : s.portReady p (encodePayload i).length = true) (ho : operationOf i s = (t, some a)) :
    exec i s = .next (t.replied p r a) := by
  rw [exec_ready h hr, operationOf_opened s p h hsoft, ho]
  exact congrArg _ (State.opened_holdAnswer t p r a)

end Sys2Proof.Machine

/-! SUPPORT. The machine's step, what the ports do not take, start-up, and the reads; the statements on reception and on reads. -/

namespace Sys2Proof.Machine

/-! ## The machine -/

/-- Settles O1: `step` on a queue that is not empty is `exec` on its front, by definition. -/
theorem stepRunsTheFrontCommand : Obligations.StepRunsTheFrontCommand := fun _ _ _ => rfl

theorem step_idle {s : State} (h : s.pending = []) : step s = .next s.crystal := by rw [step, h]

theorem exec_secondBoundary (s : State) : exec .secondBoundary s = .next (if s.clockRuns then s.boundary else s) := rfl

/-- Settles O2: a clock that runs counts its divider or completes a second, as `State.crystal` says. -/
theorem idleStepIsACrystalPeriod : Obligations.IdleStepIsACrystalPeriod := by
  intro s hq
  rw [step_idle hq]
  refine ⟨fun hstands => ?_, fun hruns => ⟨fun hlt => ?_, fun hge => ?_⟩⟩
  · have hclock : s.clockRuns = false := hstands
    simp [State.crystal, hclock]
  · have hclock : s.clockRuns = true := hruns
    rw [State.crystal, if_pos hclock, if_pos hlt]
    rfl
  · have hclock : s.clockRuns = true := hruns
    rw [State.crystal, exec_secondBoundary, if_pos hclock, if_neg (Nat.not_lt.2 hge), if_pos hclock]

/-- The queue of commands is the model's own: nothing that a command does looks at it (log 14). -/
theorem keeps_pending (q : List Instr) : Keeps fun s => s.pending = q where
  ports := by
    rintro s t ⟨_, _, _, _, _, _, _, _, rfl⟩ h
    exact h
  request := fun hi _ _ _ h => (operationOf_pending hi).trans h
  boundary := fun _ h => by simpa using h
  tick := fun _ _ h => h
  closure := fun _ _ h => by simpa using h
  block := fun _ h => by simpa using h
  digest := fun _ _ h => h
  restart := fun _ _ _ h => by simpa using h
  delay := fun _ _ h => h
  fall := fun {s b} _ h => by
    cases b <;> exact h
  vbak := fun {s} h => by
    unfold State.vbakFails
    dsimp only
    split <;> exact h
  hold := fun h => h
  unhold := fun _ h => h
  image := fun _ h => h
  stage := fun _ h => by simpa using h

theorem exec_next (c : Instr) (s : State) : ∃ t, exec c s = .next t := by
  cases c <;> exact ⟨_, rfl⟩

/-- Settles O3: every arm of `exec` answers `.next`, and every command keeps the queue. -/
theorem everyCommandAnswersNext : Obligations.EveryCommandAnswersNext := by
  intro c s
  obtain ⟨t, ht⟩ := exec_next c s
  exact ⟨t, ht, (keeps_pending s.pending).exec c rfl ht⟩

/-! ## What the ports do not take -/

theorem State.receiving_eq_false_iff (s : State) : s.receiving = false ↔ s.supply.vdd = false ∨ s.supply.resetLow = true := by
  simp [State.receiving, Decidable.imp_iff_not_or]

theorem State.receiving_of {s : State} (hv : s.supply.vdd = true) (hl : s.supply.resetLow = false) : s.receiving = true := by
  simp [State.receiving, hv, hl]

theorem State.take_of_not_receiving {s : State} (h : s.receiving = false) (p : Port) (r : Req) (n : Nat) (a : Bool)
    (op : State → Served) : s.take p r n a op = s := if_neg (by simp [h])

theorem State.serve_of_not_receiving {s : State} (h : s.receiving = false) (i : Instr) : s.serve i = s := by
  cases hi : i.request with
  | none => exact State.serve_other s hi
  | some x => rw [State.serve_eq s hi, State.take_of_not_receiving h]

theorem State.receiveBytes_of_not_receiving {s : State} (h : s.receiving = false) (bytes : List Byte) :
    s.receiveBytes bytes = s := by
  induction bytes with
  | nil => rfl
  | cons b rest ih =>
    have hone : s.receiveBytes [b] = s := if_neg (by simp [h])
    rw [State.receiveBytes_cons, hone, ih]

/-- While RESETn is held low or VDD is absent no request is received (R138). -/
theorem exec_request_of_not_receiving {s : State} (h : s.receiving = false) {i : Instr} {p : Port} {r : Req}
    (hi : i.request = some (p, r)) : exec i s = .next s := by
  rw [exec_arrive s hi]
  by_cases hp : p = .meter ∨ s.uart.rx = .hunt
  · rw [State.arrive_serve hi hp, State.serve_of_not_receiving h]
  · rw [not_or] at hp
    cases p with
    | meter => exact absurd rfl hp.1
    | survey => rw [State.arrive_bytes hi hp.2, State.receiveBytes_of_not_receiving h]

/-- Nor is a byte, a frame or a transaction. -/
theorem exec_frame_of_not_receiving {s : State} (h : s.receiving = false) {c : Instr} (hc : c.isFrame = true) :
    exec c s = .next s := by
  cases c <;> simp only [Instr.isFrame, Bool.false_eq_true] at hc
  case meterFrameReject | meterFrameDiscard | csnFall | interByteTimeout => exact congrArg _ (if_neg (by simp [h]))
  case surveyFrameReject bytes => exact congrArg _ (State.receiveBytes_of_not_receiving h bytes)
  case surveyFrameOverrun bytes =>
    have hsame : (if s.dropsFrames then s.receiveBytes bytes else s) = s := by
      rw [State.receiveBytes_of_not_receiving h, ite_self]
    exact congrArg _ hsame

theorem State.attention_of_not_receiving {s : State} (h : s.receiving = false) (p : Port) : s.attention p = false := by
  simp [State.attention, h]

section
variable {s : State} {i : Instr} {r : Req}

/-- A meter-port request's row is the taking of its frame. -/
theorem exec_meter_request (hi : i.request = some (.meter, r)) (hr : s.receiving = true) :
    exec i s = .next (s.takeMeter (encodePayload i).length i.alwaysTaken (operationOf i)) := by
  rw [exec_request hi (.inl rfl), State.take, if_pos hr]

theorem State.openTxn_of_open {t : Txn} (h : s.meter.txn = some t) (n : Nat) : s.openTxn n = s := if_pos (by simp [h])

/-- A request in a transaction that began in TAKING is discarded (R157). -/
theorem exec_meter_discarded (hi : i.request = some (.meter, r)) (hr : s.receiving = true) {t : Txn}
    (ht : s.meter.txn = some t) (hd : t.discard = true) : exec i s = .next s.csRise := by
  rw [exec_meter_request hi hr, State.takeMeter, State.openTxn_of_open ht]
  simp [ht, hd]

/-- A request whose transaction clocks too few bytes is answered FRAME (R158). -/
theorem exec_meter_short (hi : i.request = some (.meter, r)) (hr : s.receiving = true) {t : Txn} (ht : s.meter.txn = some t)
    (hd : t.discard = false) (hn : t.clocked < (encodePayload i).length + 3) :
    exec i s = .next (s.csRise.setSlot (.holding (plain .frame))) := by
  rw [exec_meter_request hi hr, State.takeMeter, State.openTxn_of_open ht]
  simp [ht, hd, hn]

theorem State.csFall_txn (s : State) (n : Nat) : ∃ t, (s.csFall (n + 1)).meter.txn = some t := by
  unfold State.csFall
  dsimp only
  split <;> exact ⟨_, rfl⟩

theorem State.csFall_supply (s : State) (n : Nat) : (s.csFall n).supply = s.supply := by
  obtain ⟨_, _, _, _, _, _, _, _, h⟩ := State.PortOnly.csFall s n
  rw [h]

/-- With no transaction open a request's row stands for the fall of CSn too (log 6). -/
theorem exec_meter_opens (hi : i.request = some (.meter, r)) (hr : s.receiving = true) (ht : s.meter.txn = none) :
    exec i s = exec i (s.csFall ((encodePayload i).length + 3)) := by
  have hr' : (s.csFall ((encodePayload i).length + 3)).receiving = true := by
    rwa [State.receiving, State.csFall_supply]
  obtain ⟨t, htxn⟩ := State.csFall_txn s ((encodePayload i).length + 2)
  have hopen : s.openTxn ((encodePayload i).length + 3) = s.csFall ((encodePayload i).length + 3) := if_neg (by simp [ht])
  rw [exec_meter_request hi hr, exec_meter_request hi hr', State.takeMeter, State.takeMeter, hopen, State.openTxn_of_open htxn]

/-- A request that reaches the survey port while one is outstanding is dropped and counted (R159). -/
theorem exec_survey_dropped (hi : i.request = some (.survey, r)) (hr : s.receiving = true) (hx : s.uart.rx = .hunt)
    (ho : s.uart.out ≠ none) : exec i s = .next (s.setUart s.uart.hunting.overrun) := by
  rw [exec_request hi (.inr hx), State.take, if_pos hr]
  exact congrArg _ (if_pos (Option.isSome_iff_ne_none.2 ho))

end

/-- Settles O4: what each port does with a request that it does not take, one lemma per way. -/
theorem requestsThatAreNotTaken : Obligations.RequestsThatAreNotTaken := by
  refine ⟨fun s h => ?_, fun s i r hv hl => ?_⟩
  · have hr := (State.receiving_eq_false_iff s).2 h
    refine ⟨fun c hc => ?_, State.attention_of_not_receiving hr⟩
    rcases hc with hc | hc
    · obtain ⟨x, hx⟩ := Option.isSome_iff_exists.1 hc
      exact exec_request_of_not_receiving hr hx
    · exact exec_frame_of_not_receiving hr hc
  · intro n
    have hr := State.receiving_of hv hl
    refine ⟨fun hi => ⟨fun txn ht => ⟨exec_meter_discarded hi hr ht, exec_meter_short hi hr ht⟩, fun ht => ?_⟩,
      fun hi => ⟨fun hx frame hf => ?_, exec_survey_dropped hi hr⟩⟩
    · obtain ⟨t, htxn⟩ := State.csFall_txn s ((encodePayload i).length + 2)
      exact ⟨s.csFall n, congrArg _ (if_pos hr), by rw [htxn]; simp, exec_meter_opens hi hr ht⟩
    · rw [exec_arrive s hi, State.arrive_bytes hi hx, hf]
      rfl

/-! ## Start-up and the wrong port -/

theorem alwaysTaken_eq_false {i : Instr} {p : Port} {r : Req} (hi : i.request = some (p, r)) (hr : r ≠ .status) :
    i.alwaysTaken = false := by
  cases i
  case status q =>
    simp only [Instr.request, Option.some.injEq, Prod.mk.injEq] at hi
    exact absurd hi.2.symm hr
  all_goals rfl

theorem eq_status_of_request {i : Instr} {p : Port} (hi : i.request = some (p, .status)) : i = .status p := by
  cases i <;> simp only [Instr.request, Option.some.injEq, Prod.mk.injEq, reduceCtorEq, and_false, and_true] at hi
  rw [hi]

/-- Settles O5: `exec_startUp_busy` for every request but STATUS, which `exec_status` answers at every time. -/
theorem startUpAnswersBusy : Obligations.StartUpAnswersBusy := by
  intro s i p r hi hp hu
  refine ⟨fun hr => exec_startUp_busy hi (alwaysTaken_eq_false hi hr) hp hu, ?_⟩
  rintro rfl
  obtain rfl := eq_status_of_request hi
  exact ⟨s.statusReport, exec_status hp, Option.isSome_iff_ne_none.2 hu⟩

theorem eq_setPosition_of_request {i : Instr} {p : Port} (h : i.request = some (p, .setPosition)) :
    ∃ k lat lon, i = .setPosition p k lat lon := by
  cases i <;> simp only [Instr.request, Option.some.injEq, Prod.mk.injEq, reduceCtorEq, and_false, and_true] at h
  exact ⟨_, _, _, by rw [h]⟩

/-- Settles O6: on the other port each of these operations is DENIED by its first arm. -/
theorem wrongPortIsDenied : Obligations.WrongPortIsDenied := by
  intro s i p r hi hp hmem
  have denied (hsoft : r ≠ .softReset) (ho : operationOf i s = (s, some (refusal .denied))) :
      exec i s = .next (s.replied p r (refusal .denied)) := exec_ready_served hi hsoft hp ho
  simp only [List.mem_cons, Prod.mk.injEq, List.not_mem_nil, or_false] at hmem
  rcases hmem with ⟨rfl, rfl⟩ | ⟨rfl, rfl⟩ | ⟨rfl, rfl⟩ | ⟨rfl, rfl⟩ | ⟨rfl, rfl⟩ | ⟨rfl, rfl⟩ | ⟨rfl, rfl⟩ | ⟨rfl, rfl⟩ |
    ⟨rfl, rfl⟩ | ⟨rfl, rfl⟩
  · obtain ⟨_, _, _, _, _, _, rfl⟩ := eq_sample_of_request hi
    exact denied (by decide) rfl
  · obtain ⟨_, rfl⟩ := eq_setClock_of_request hi
    exact denied (by decide) rfl
  · obtain ⟨_, _, _, rfl⟩ := eq_openSurvey_of_request hi
    exact denied (by decide) rfl
  · obtain rfl := eq_closeSurvey_of_request hi
    exact denied (by decide) rfl
  · obtain ⟨_, _, rfl⟩ := eq_setLine_of_request hi
    exact denied (by decide) rfl
  · obtain ⟨_, _, _, rfl⟩ := eq_setPosition_of_request hi
    exact denied (by decide) rfl
  · obtain ⟨_, _, _, _, rfl⟩ := eq_occupy_of_request hi
    exact denied (by decide) rfl
  · obtain ⟨_, rfl⟩ := eq_purge_of_request hi
    exact denied (by decide) rfl
  · obtain ⟨_, _, rfl⟩ := eq_loadBase_of_request hi
    exact denied (by decide) rfl
  · obtain ⟨_, rfl⟩ := eq_dropBase_of_request hi
    exact denied (by decide) rfl

/-! ## Reads -/

theorem Sums.mean_eq (a : Sums) :
    a.mean = if a.n = 0 then none else a.first.map fun f => f.v + roundDiv a.sumD a.n := by
  unfold Sums.mean
  cases a.first <;> simp

/-- Settles O8: the three operations answer from the state and leave it. -/
theorem plainReadsReturnTheState : Obligations.PlainReadsReturnTheState := by
  intro s p h
  refine ⟨exec_ready_served (by rfl) (by decide) h ?_, exec_ready_served (by rfl) (by decide) h rfl,
    exec_ready_served (by rfl) (by decide) h rfl⟩
  rw [← Sums.mean_eq]
  rfl

/-- An entry is in use where the log holds a tie at its id, or the active record is a BASE occupation of it (R108). -/
theorem State.baseInUse_eq (s : State) (id : Nat) :
    s.baseInUse id = ((s.log.records.any fun r => decide (r.role ≠ .none ∧ r.station = id)) ||
      match s.activeRecord with
      | some r => decide (r.kind = .base ∧ r.station = id)
      | none => false) := by
  have htie (r : Record) : r.isTieAt id = decide (r.role ≠ .none ∧ r.station = id) := by
    rw [Bool.eq_iff_iff]
    simp [Record.isTieAt]
  have hbase (r : Record) : r.isBaseAt id = decide (r.kind = .base ∧ r.station = id) := by
    rw [Bool.eq_iff_iff]
    simp [Record.isBaseAt]
  unfold State.baseInUse
  simp only [htie, hbase]
  cases s.activeRecord <;> rfl

/-- Settles O11: READ BASES answers the page that its rule gives, each entry with `State.baseInUse`, and leaves the state. -/
theorem readBasesPagesTheTable : Obligations.ReadBasesPagesTheTable := by
  intro s p start h found most inUse
  have hmost : basesPerResponse p = most := by cases p <;> rfl
  have hinUse : inUse = s.baseInUse := funext fun id => (State.baseInUse_eq s id).symm
  refine exec_ready_served (by rfl) (by decide) h ?_
  rw [hinUse, ← hmost]
  rfl

end Sys2Proof.Machine

/-! SUPPORT. Events and masks, and the survey clock with the counters that its second boundaries drive. -/

namespace Sys2Proof.Machine

/-! ## Events, masks and leaving UNSET -/

theorem State.leaveUnset_leaves {s : State} (hs : s.survey.state = .unset) (hc : s.clock.isSet = true)
    (hd : s.noneDefaulted = true) : s.leaveUnset = (s.setSurvey { s.survey with state := .ready }).raise .surveyChanged :=
  if_pos ⟨hs, hc, hd⟩

/-- Settles O12: `State.raise` and `State.leaveUnset` field by field, and the attention line of a part that receives. -/
theorem eventsAndLeavingUnset : Obligations.EventsAndLeavingUnset := by
  refine ⟨fun s e p => ⟨rfl, fun hv hl hu => ?_⟩, fun s => ⟨fun hs hc hd => ?_, fun h => if_neg fun hc => h ?_⟩⟩
  · simp [State.attention, State.receiving_of hv hl, hu]
  · exact State.leaveUnset_leaves hs hc (s.noneDefaulted_iff.2 hd)
  · exact ⟨hc.1, hc.2.1, s.noneDefaulted_iff.1 hc.2.2⟩

/-- Settles O13: each operation changes one field of its own port and answers from it. -/
theorem eventRequestsTouchTheirOwnPort : Obligations.EventRequestsTouchTheirOwnPort := by
  intro s w
  exact ⟨fun h => exec_ready_served (by rfl) (by decide) h rfl, fun h => exec_ready_served (by rfl) (by decide) h rfl,
    fun h => exec_ready_served (by rfl) (by decide) h rfl, fun h => exec_ready_served (by rfl) (by decide) h rfl⟩

/-! ## SET CLOCK (R10, R11) -/

theorem opSetClock_refused {s : State} {v : U32} (hs : s.inSurvey = true)
    (hv : 2 < ((v.toNat : Int) - (s.clock.value : Int)).natAbs) : opSetClock .survey v s = refuse s .clockStep :=
  if_pos ⟨hs, hv⟩

theorem opSetClock_accepted {s : State} {v : U32}
    (h : s.inSurvey = true → ((v.toNat : Int) - (s.clock.value : Int)).natAbs ≤ 2) :
    opSetClock .survey v s = accept (s.clockSetTo v.toNat) .empty :=
  if_neg fun hc => absurd (h hc.1) (Nat.not_le.2 hc.2)

/-- Settles O14: `opSetClock`'s one check, and `State.leaveUnset` after the clock is set. -/
theorem setClockSetsOrRefuses : Obligations.SetClockSetsOrRefuses := by
  intro s v h t open_
  have hopen : open_ ↔ s.inSurvey = true := (State.inSurvey_iff s).symm
  refine ⟨fun ho hv => exec_ready_served (by rfl) (by decide) h (opSetClock_refused (hopen.1 ho) hv), fun hv => ?_⟩
  have accepted {u : State} (hu : t.leaveUnset = u) :
      exec (.setClock .survey v) s = .next (u.replied .survey .setClock (okAnswer .empty)) := by
    refine exec_ready_served (by rfl) (by decide) h ((opSetClock_accepted fun hs => hv (hopen.2 hs)).trans ?_)
    exact congrArg (accept · .empty) hu
  exact ⟨fun hs hd => accepted (State.leaveUnset_leaves hs rfl ((State.noneDefaulted_iff t).2 hd)),
    fun hn => accepted (if_neg fun hc => hn ⟨hc.1, s.noneDefaulted_iff.1 hc.2.2⟩)⟩

/-! ## The second boundary (R8, R38, R73, R74) -/

/-- Where the main domain does not hold its values the clock alone counts (log 17). -/
theorem State.boundary_of_not_live {s : State} (h : s.mainLive = false) : s.boundary = s.setClock s.clock.second := by
  have hlive : (s.setClock s.clock.second).mainLive = false := h
  rw [State.boundary, hlive]
  rfl

theorem State.boundary_of_live {s : State} (h : s.mainLive = true) :
    s.boundary = (s.setClock s.clock.second).countGap.countStale := by
  have hlive : (s.setClock s.clock.second).mainLive = true := h
  rw [State.boundary, hlive]
  rfl

/-- The gap counter of an active occupation rises below its limit, and no expiry comes (R73). -/
theorem State.countGap_of_not_due {s : State} (h : ¬(s.occ.isActive = true ∧ s.occ.gap + 1 = s.store.work.settle.gapLimit)) :
    s.countGap = s.setOcc { s.occ with
      gap := if s.occ.isActive = true ∧ s.occ.gap < s.store.work.settle.gapLimit then s.occ.gap + 1 else s.occ.gap } := by
  unfold State.countGap
  cases hr : s.occ.state.record with
  | none =>
    have hidle : s.occ.isActive = false := by rw [Occupation.isActive, hr]; rfl
    simp only [hidle, Bool.false_eq_true, false_and, if_false]
    rfl
  | some q =>
    have hactive : s.occ.isActive = true := by rw [Occupation.isActive, hr]; rfl
    have hne : ¬(s.occ.gap + 1 = s.store.work.settle.gapLimit) := fun hlimit => h ⟨hactive, hlimit⟩
    dsimp only
    rw [if_neg hne]
    simp only [hactive, true_and]
    split <;> rfl

/-- The boundary that reaches the gap limit expires the gap (R74). -/
theorem State.countGap_of_due {s : State} {q : Nat} (hr : s.occ.state.record = some q)
    (h : s.occ.gap + 1 = s.store.work.settle.gapLimit) :
    s.countGap = (s.setOcc { s.occ with gap := s.occ.gap + 1 }).gapExpires q := by
  have hlt : s.occ.gap < s.store.work.settle.gapLimit := by omega
  rw [State.countGap, hr]
  dsimp only
  rw [if_pos hlt, if_pos h]

/-- The staleness count rises, and the reading is STALE from the limit on (R38). -/
theorem State.countStale_eq (s : State) :
    s.countStale =
      (s.setOcc { s.occ with staleness := satAdd 255 s.occ.staleness 1 }).setChain { s.chain with
        stale := s.chain.stale || decide (s.store.work.settle.gapLimit ≤ satAdd 255 s.occ.staleness 1) } := by
  unfold State.countStale
  dsimp only
  split
  next h =>
    rw [decide_eq_true h.2, Bool.or_true]
    rfl
  next h =>
    have hstale : (s.chain.stale || decide (s.store.work.settle.gapLimit ≤ satAdd 255 s.occ.staleness 1)) = s.chain.stale := by
      cases hs : s.chain.stale with
      | true => rfl
      | false => exact decide_eq_false fun hn => h ⟨hs, hn⟩
    rw [hstale]
    rfl

theorem exec_secondBoundary_runs {s : State} (h : s.clockRuns = true) : exec .secondBoundary s = .next s.boundary :=
  congrArg _ (if_pos h)

/-- A boundary that expires no gap, as a whole next state. -/
theorem State.boundary_of_not_due {s : State} (hl : s.mainLive = true)
    (h : ¬(s.occ.isActive = true ∧ s.occ.gap + 1 = s.store.work.settle.gapLimit)) :
    s.boundary = { s with
      clock := s.clock.second
      chain := { s.chain with stale := s.chain.stale || decide (s.store.work.settle.gapLimit ≤ satAdd 255 s.occ.staleness 1) }
      occ := { s.occ with
        gap := if s.occ.isActive = true ∧ s.occ.gap < s.store.work.settle.gapLimit then s.occ.gap + 1 else s.occ.gap
        staleness := satAdd 255 s.occ.staleness 1 } } := by
  rw [State.boundary_of_live hl, State.countGap_of_not_due (s := s.setClock s.clock.second) h, State.countStale_eq]
  rfl

/-- A boundary that expires the gap, as a whole next state: the reading is STALE whatever the staleness count (R74). -/
theorem State.boundary_of_due {s : State} (hl : s.mainLive = true) {q : Nat} (hr : s.occ.state.record = some q)
    (h : s.occ.gap + 1 = s.store.work.settle.gapLimit) :
    s.boundary = ({ s with
      clock := s.clock.second
      chain := { s.chain with stale := true }
      occ := { s.occ with
        state := .settling q
        run := 0
        ref := none
        window := quietWindow
        gap := s.store.work.settle.gapLimit
        counts := { s.occ.counts with gaps := satAdd 255 s.occ.counts.gaps 1 }
        staleness := satAdd 255 s.occ.staleness 1 } } : State).raise .gap := by
  rw [State.boundary_of_live hl, State.countGap_of_due (s := s.setClock s.clock.second) hr h, State.countStale_eq, ← h]
  rfl

/-- Settles O15: the boundary's three cases, from `State.countGap` and `State.countStale`. -/
theorem secondBoundaryCounts : Obligations.SecondBoundaryCounts := by
  intro s clock limit n
  refine ⟨fun hstands => congrArg _ (if_neg ?_), fun hruns => ⟨fun hl => ?_, fun hl hn => ?_, fun hl q hr hg => ?_⟩⟩
  · have hclock : s.clockRuns = false := hstands
    simp [hclock]
  · rw [exec_secondBoundary_runs hruns, State.boundary_of_not_live hl]
    rfl
  · rw [exec_secondBoundary_runs hruns, State.boundary_of_not_due hl hn]
    rfl
  · rw [exec_secondBoundary_runs hruns, State.boundary_of_due hl hr hg]
    rfl

/-! ## GAP_EXPIRY and LIVE_READING_STALE (log 7) -/

theorem satAdd_one_eq_min (top n : Nat) : satAdd top n 1 = min top (n + 1) := by
  unfold satAdd
  split <;> omega

theorem exec_gapExpiry_of_not_due {s : State} (h : s.gapDue = false) : exec .gapExpiry s = .next s :=
  congrArg _ (if_neg (by simp [h]))

theorem exec_gapExpiry_of_due {s : State} (h : s.gapDue = true) : exec .gapExpiry s = .next s.boundary := congrArg _ (if_pos h)

theorem exec_liveReadingStale_of_not_due {s : State} (h : s.staleDue = false) : exec .liveReadingStale s = .next s :=
  congrArg _ (if_neg (by simp [h]))

theorem exec_liveReadingStale_of_due {s : State} (h : s.staleDue = true) : exec .liveReadingStale s = .next s.boundary :=
  congrArg _ (if_pos h)

section
variable {s : State} (hruns : s.clockRuns = true) (hl : s.mainLive = true)
include hruns hl

theorem State.gapDue_iff : s.gapDue = true ↔ s.occ.isActive = true ∧ s.occ.gap + 1 = s.store.work.settle.gapLimit := by
  simp [State.gapDue, hruns, hl]

theorem State.staleDue_iff :
    s.staleDue = true ↔ s.chain.stale = false ∧ s.store.work.settle.gapLimit ≤ min 255 (s.occ.staleness + 1) := by
  simp [State.staleDue, hruns, hl, satAdd_one_eq_min]

end

theorem State.boundary_staleness {s : State} (hl : s.mainLive = true) :
    s.boundary.occ.staleness = min 255 (s.occ.staleness + 1) := by
  rw [State.boundary_of_live hl, State.countStale_eq, ← satAdd_one_eq_min]
  by_cases h : s.occ.isActive = true ∧ s.occ.gap + 1 = s.store.work.settle.gapLimit
  · obtain ⟨q, hq⟩ := Option.isSome_iff_exists.1 h.1
    rw [State.countGap_of_due (s := s.setClock s.clock.second) hq h.2]
    rfl
  · rw [State.countGap_of_not_due (s := s.setClock s.clock.second) h]
    rfl

theorem State.boundary_chain_of_stale {s : State} (hl : s.mainLive = true)
    (hn : s.store.work.settle.gapLimit ≤ min 255 (s.occ.staleness + 1)) :
    s.boundary.chain = { s.chain with stale := true } := by
  by_cases h : s.occ.isActive = true ∧ s.occ.gap + 1 = s.store.work.settle.gapLimit
  · obtain ⟨q, hq⟩ := Option.isSome_iff_exists.1 h.1
    rw [State.boundary_of_due hl hq h.2]
    rfl
  · rw [State.boundary_of_not_due hl h, satAdd_one_eq_min, decide_eq_true hn, Bool.or_true]

/-- Settles O16: each of the two events is `State.boundary` where it is due, and nothing elsewhere. -/
theorem limitEventsAreTheirBoundary : Obligations.LimitEventsAreTheirBoundary := by
  refine ⟨fun s h => ?_, fun s h => ?_⟩
  · have hnot : (s.clockRuns && s.mainLive) = false := h
    exact ⟨exec_gapExpiry_of_not_due (by simp [State.gapDue, hnot]),
      exec_liveReadingStale_of_not_due (by simp [State.staleDue, hnot])⟩
  · intro limit
    obtain ⟨hruns, hl⟩ : s.clockRuns = true ∧ s.mainLive = true := by rwa [Bool.and_eq_true] at h
    refine ⟨fun q hr hg => ?_, fun hn => ?_, fun hs => ?_, fun hn => ?_⟩
    · have hdue : s.gapDue = true := (State.gapDue_iff hruns hl).2 ⟨by rw [Occupation.isActive, hr]; rfl, hg⟩
      refine ⟨s.boundary, exec_gapExpiry_of_due hdue, exec_secondBoundary_runs hruns, ?_⟩
      rw [State.boundary_of_due hl hr hg]
      exact ⟨rfl, rfl, rfl, rfl, rfl, fun p => by cases p <;> rfl, rfl⟩
    · exact exec_gapExpiry_of_not_due (Bool.eq_false_iff.2 fun hdue => hn ((State.gapDue_iff hruns hl).1 hdue))
    · exact ⟨s.boundary, exec_liveReadingStale_of_due ((State.staleDue_iff hruns hl).2 hs), exec_secondBoundary_runs hruns,
        State.boundary_chain_of_stale hl hs.2, State.boundary_staleness hl, by rw [State.boundary_clock]; rfl⟩
    · exact exec_liveReadingStale_of_not_due (Bool.eq_false_iff.2 fun hdue => hn ((State.staleDue_iff hruns hl).1 hdue))

end Sys2Proof.Machine

/-! SUPPORT. SAMPLE as a whole: what its nine stages leave, outside an occupation, in SETTLING and in SETTLED (chapters 2 and 4). -/

namespace Sys2Proof.Machine

/-! ## One record of the log changed (R90) -/

theorem Log.modify_of_id {l : Log} {q : Nat} {f : Record → Record} (h : ∀ r, f r = r) : l.modify q f = l := by
  have hid : (fun r : Record => if r.seq = q then f r else r) = id := funext fun r => by rw [h, ite_self]; rfl
  rw [Log.modify, hid, List.map_id]

/-- Two changes of one record that keep its number are one. -/
theorem Log.modify_modify (l : Log) (q : Nat) {f g : Record → Record} (hf : ∀ r, (f r).seq = r.seq) :
    (l.modify q f).modify q g = l.modify q (g ∘ f) := by
  simp only [Log.modify, List.map_map]
  refine congrArg (fun rs => ({ l with records := rs } : Log)) (List.map_congr_left fun r _ => ?_)
  by_cases h : r.seq = q <;> simp [h, hf]

/-- A change that keeps numbers and positions is seen neither in the position of a record found nor in the newest one's. -/
theorem Log.modify_positions (l : Log) (q : Nat) {f : Record → Record} (hseq : ∀ r, (f r).seq = r.seq)
    (hpos : ∀ r, (f r).pos = r.pos) :
    (∀ n, ((l.modify q f).find n).map (·.pos) = (l.find n).map (·.pos)) ∧
      (l.modify q f).newest.map (·.pos) = l.newest.map (·.pos) := by
  have hkeep (r : Record) : (if r.seq = q then f r else r).seq = r.seq ∧ (if r.seq = q then f r else r).pos = r.pos := by
    split_ifs
    · exact ⟨hseq r, hpos r⟩
    · exact ⟨rfl, rfl⟩
  refine ⟨fun n => ?_, ?_⟩
  · have hpred : ((fun r : Record => r.seq == n) ∘ fun r => if r.seq = q then f r else r) = fun r => r.seq == n :=
      funext fun r => congrArg (· == n) (hkeep r).1
    rw [Log.find, Log.modify, List.find?_map, hpred, Option.map_map]
    exact congrArg (Option.map · _) (funext fun r => (hkeep r).2)
  · rw [Log.newest, Log.modify, List.getLast?_map, Option.map_map]
    exact congrArg (Option.map · _) (funext fun r => (hkeep r).2)

/-! ## Stage 1: the sequence number and the loss (R17, R18, R72) -/

/-- The samples lost before this one, by its number. -/
def State.lostNow (s : State) (seq : Nat) : Nat := lostBefore s.meter.expected seq

/-- A record as a loss marks it (R72). -/
def Record.noteLoss (lost : Bool) (x : Record) : Record :=
  { x with quality := { x.quality with loss := x.quality.loss || lost } }

theorem Record.noteLoss_seq (lost : Bool) (x : Record) : (x.noteLoss lost).seq = x.seq := rfl

/-- The lost-sample count after so many more losses (R18). -/
def lostCount (c n : Nat) : Nat := if 65535 < c + n ∧ n ≠ 0 then 65535 else c + n

theorem lostCount_zero (c : Nat) : lostCount c 0 = c := if_neg fun h => h.2 rfl

theorem lostCount_of_ne (c : Nat) {n : Nat} (h : n ≠ 0) : lostCount c n = satAdd 65535 c n := by
  simp [lostCount, satAdd, h]

theorem State.reportLoss_zero (s : State) : s.reportLoss 0 = s := if_pos rfl

theorem State.reportLoss_idle {s : State} (h : s.occ.isActive = false) (n : Nat) :
    s.reportLoss n = s.setChain { s.chain with lost := lostCount s.chain.lost n } := by
  by_cases hn : n = 0
  · rw [hn, State.reportLoss_zero, lostCount_zero]
    rfl
  · rw [State.reportLoss, if_neg hn, lostCount_of_ne _ hn]
    exact if_neg (by simp [h])

/-- In an occupation a loss is noted in the accumulator and in the record too (R72). -/
theorem State.reportLoss_active {s : State} {q : Nat} (h : s.occ.state.record = some q) (n : Nat) :
    s.reportLoss n = ((s.setChain { s.chain with lost := lostCount s.chain.lost n }).setOcc
      { s.occ with counts := { s.occ.counts with loss := s.occ.counts.loss || decide (n ≠ 0) } }).setLog
        (s.log.modify q (Record.noteLoss (decide (n ≠ 0)))) := by
  by_cases hn : n = 0
  · subst hn
    have hsame : s.log.modify q (Record.noteLoss (decide ((0 : Nat) ≠ 0))) = s.log :=
      Log.modify_of_id fun x => by simp [Record.noteLoss]
    rw [State.reportLoss_zero, lostCount_zero, hsame]
    simp only [ne_eq, not_true_eq_false, decide_false, Bool.or_false]
    rfl
  · have hactive : s.occ.isActive = true := by rw [Occupation.isActive, h]; rfl
    have hnote : Record.noteLoss true = fun x => { x with quality := { x.quality with loss := true } } :=
      funext fun x => by simp [Record.noteLoss]
    simp only [State.reportLoss, hnote, hactive, if_true, if_false, State.markActive, State.setOcc_occ, State.setChain_occ, h,
      lostCount_of_ne _ hn, hn, ne_eq, not_false_eq_true, decide_true, Bool.or_true]
    rfl

theorem State.takeSequence_chain (s : State) (seq : Nat) :
    (s.takeSequence seq).chain = { s.chain with lost := lostCount s.chain.lost (s.lostNow seq) } := by
  cases hr : s.occ.state.record with
  | none =>
    have hidle : (s.setMeter { s.meter with expected := some seq }).occ.isActive = false := by
      rw [State.setMeter_occ, Occupation.isActive, hr]
      rfl
    rw [State.takeSequence, State.reportLoss_idle hidle]
    rfl
  | some q =>
    rw [State.takeSequence, State.reportLoss_active (s := s.setMeter { s.meter with expected := some seq }) hr]
    rfl

theorem State.takeSequence_expected (s : State) (seq : Nat) : (s.takeSequence seq).meter.expected = some seq := by
  simp [State.takeSequence]

/-- Outside an occupation a loss is counted, and nothing else comes of it. -/
theorem State.takeSequence_idle {s : State} (h : s.occ.state = .none) (seq : Nat) :
    s.takeSequence seq =
      (s.setMeter { s.meter with expected := some seq }).setChain
        { s.chain with lost := lostCount s.chain.lost (s.lostNow seq) } :=
  State.reportLoss_idle (s := s.setMeter { s.meter with expected := some seq })
    ((s.occ.isActive_eq_false_iff).2 h) _

theorem State.takeSequence_active {s : State} {q : Nat} (h : s.occ.state.record = some q) (seq : Nat) :
    s.takeSequence seq =
      (((s.setMeter { s.meter with expected := some seq }).setChain
        { s.chain with lost := lostCount s.chain.lost (s.lostNow seq) }).setOcc
      { s.occ with counts := { s.occ.counts with loss := s.occ.counts.loss || decide (s.lostNow seq ≠ 0) } }).setLog
        (s.log.modify q (Record.noteLoss (decide (s.lostNow seq ≠ 0)))) :=
  State.reportLoss_active (s := s.setMeter { s.meter with expected := some seq }) h _

/-- A loss marks a record's quality, so the position in force stands. -/
theorem State.takeSequence_positionInForce (s : State) (seq : Nat) : (s.takeSequence seq).positionInForce = s.positionInForce := by
  cases hr : s.occ.state.record with
  | none =>
    rw [State.takeSequence_idle ((s.occ.isActive_eq_false_iff).1 (by rw [Occupation.isActive, hr]; rfl))]
    rfl
  | some q =>
    rw [State.takeSequence_active hr]
    obtain ⟨hfind, hnewest⟩ := s.log.modify_positions q
      (f := Record.noteLoss (decide (s.lostNow seq ≠ 0)))
      (fun _ => rfl) (fun _ => rfl)
    have hpos := hfind q
    unfold State.positionInForce State.activeRecord
    simp only [State.setLog_occ, State.setLog_log, State.setLog_pendingPos, State.setOcc_occ, State.setOcc_pendingPos,
      State.setChain_pendingPos, State.setMeter_pendingPos, hr, hnewest]
    cases hx : s.log.find q with
    | none =>
      rw [hx] at hpos
      rw [Option.map_eq_none_iff.1 hpos]
    | some x =>
      rw [hx] at hpos
      obtain ⟨y, hy, hyx⟩ := Option.map_eq_some_iff.1 hpos
      rw [hy]
      exact congrArg some hyx

theorem State.takeSequence_tideNow (s : State) (seq : Nat) : (s.takeSequence seq).tideNow = s.tideNow := by
  simp [State.tideNow, State.takeSequence_positionInForce]

/-! ## The sample taken -/

/-- The live reading of a SAMPLE taken now. -/
def State.sampleOf (s : State) (seq : Byte) (r : U32) (tx ty dT : U16) (flags : Byte) : Live :=
  s.liveOf seq.toNat r.toNat (sampleField tx) (sampleField ty) (sampleField dT) (!notLocked flags) s.tideNow

/-- The state as stages 1 to 8 of a sample leave it. -/
def State.corrected (s : State) (seq : Nat) (l : Live) : State := (s.takeSequence seq).correctSample l s.tideNow.cache

/-- A SAMPLE that its port takes is corrected and handed to the occupation controller (R16). -/
theorem exec_sample_served {s : State} (h : s.portReady .meter 12 = true) (seq : Byte) (r : U32) (tx ty dT : U16) (flags : Byte) :
    exec (.sample .meter seq r tx ty dT flags) s =
      .next (((s.corrected seq.toNat (s.sampleOf seq r tx ty dT flags)).handSample
        (s.sampleOf seq r tx ty dT flags)).replied .meter .sample (okAnswer .empty)) := by
  refine exec_ready_served (by rfl) (by decide) h ?_
  simp only [operationOf, opSample, State.takeSequence_tideNow, State.liveOf_takeSequence]
  rfl

theorem State.handSample_expected (s : State) (l : Live) : (s.handSample l).meter.expected = s.meter.expected := by
  unfold State.handSample State.settlingSample State.settledSample
  split
  · rfl
  all_goals
    dsimp only
    split_ifs <;> simp

theorem filterStep_eq (tf : Int) (primed : Bool) (dT : Int) (shift : Nat) :
    filterStep tf primed dT shift = if primed then tf + (dT * 256 - tf) / 2 ^ shift else dT * 256 := by
  simp [filterStep, floorDiv]

/-- Settles O19: the chain and the cache are those of `State.corrected`, which the occupation controller leaves; in NONE it leaves the
rest too. -/
theorem sampleIsCorrected : Obligations.SampleIsCorrected := by
  intro s seq r tx ty dT flags h k lost used v rx ry tf position tide cal tiltc tempc live chain
  have htf : tf = filterStep s.chain.tf s.chain.primed (sampleField dT) k.sensor.shift := (filterStep_eq ..).symm
  have hlive : live = s.sampleOf seq r tx ty dT flags := by
    simp only [live, State.sampleOf, State.liveOf, Bool.not_not, tempc, htf]
    rfl
  have hcorrected : (s.corrected seq.toNat live).chain = chain := by
    simp only [State.corrected, State.correctSample_chain, State.takeSequence_chain, State.takeSequence_frame, chain, htf]
    rw [hlive]
    rfl
  have hcache : (s.corrected seq.toNat live).cache = tide.cache := rfl
  refine ⟨_, exec_sample_served h seq r tx ty dT flags, ?_⟩
  rw [← hlive]
  obtain ⟨-, -, -, -, -, -, hchain, hsame, -⟩ := (s.corrected seq.toNat live).handSample_frame live
  refine ⟨hchain.trans hcorrected, hsame.trans hcache, ?_, rfl, fun hidle => ?_⟩
  · exact (State.handSample_expected _ live).trans (s.takeSequence_expected seq.toNat)
  · have hocc : (s.corrected seq.toNat live).occ = { s.occ with staleness := 0 } := by
      simp [State.corrected, State.correctSample, State.takeSequence_idle hidle]
    have hnone : (s.corrected seq.toNat live).handSample live = s.corrected seq.toNat live := by
      rw [State.handSample, hocc, hidle]
    rw [hnone]
    have hwhole : s.corrected seq.toNat live = { s with
        meter := { s.meter with expected := some seq.toNat }
        chain := (s.corrected seq.toNat live).chain
        cache := tide.cache
        occ := { s.occ with staleness := 0 } } := by
      rw [State.corrected, State.takeSequence_idle hidle]
      rfl
    rw [hwhole, hcorrected]

/-! ## A sample handed to an active occupation (sections 4.5 to 4.8) -/

/-- The quiet test of a sample handed on now (R67). -/
def State.quietNow (s : State) (l : Live) : Bool := isQuiet l.flags.rejected s.occ.ref l.v s.store.work.settle.q

/-- The run of quiet samples after a sample in SETTLING (R69). -/
def State.runAfter (s : State) (l : Live) : Nat := if s.quietNow l then s.occ.run + 1 else 0

/-- The A-th quiet sample in a row settles (R69). -/
theorem State.settlingSample_settles {s : State} {l : Live} (h : s.runAfter l = s.store.work.settle.a) (q : Nat) :
    s.settlingSample q l = (s.setOcc
      { s.occ with
        state := .settled q, run := s.runAfter l, ref := nextRef s.occ.ref l.flags.rejected l.v, window := quietWindow,
        gap := 0 }).raise .settled := if_pos h

theorem State.settlingSample_waits {s : State} {l : Live} (h : s.runAfter l ≠ s.store.work.settle.a) (q : Nat) :
    s.settlingSample q l = s.setOcc
      { s.occ with
        run := s.runAfter l, ref := nextRef s.occ.ref l.flags.rejected l.v,
        window := pushMark s.occ.window (!s.quietNow l), gap := 0 } := if_neg h

theorem State.settlingSample_occ (s : State) (q : Nat) (l : Live) :
    (s.settlingSample q l).occ =
      { s.occ with
        state := if s.runAfter l = s.store.work.settle.a then .settled q else s.occ.state
        run := s.runAfter l
        ref := nextRef s.occ.ref l.flags.rejected l.v
        window := if s.runAfter l = s.store.work.settle.a then quietWindow else pushMark s.occ.window (!s.quietNow l)
        gap := 0 } := by
  by_cases h : s.runAfter l = s.store.work.settle.a
  · rw [State.settlingSample_settles h, if_pos h, if_pos h]
    rfl
  · rw [State.settlingSample_waits h, if_neg h, if_neg h]
    rfl

theorem State.settlingSample_events (s : State) (q : Nat) (l : Live) (p : Port) :
    (s.settlingSample q l).events p =
      if s.runAfter l = s.store.work.settle.a then addEvent .settled (s.events p) else s.events p := by
  by_cases h : s.runAfter l = s.store.work.settle.a
  · rw [State.settlingSample_settles h, if_pos h, State.raise_events]
    cases p <;> rfl
  · rw [State.settlingSample_waits h, if_neg h]
    cases p <;> rfl

/-- The window after a sample in SETTLED (R68). -/
def State.windowAfter (s : State) (l : Live) : List Bool := pushMark s.occ.window (!s.quietNow l)

/-- A record as a sample in SETTLED marks it (R70). -/
def Record.noteFlags (f : SampleFlags) (x : Record) : Record := { x with quality := x.quality.seen f }

theorem State.markActive_settled {s : State} {q : Nat} (h : s.occ.state = .settled q) (f : SampleFlags) :
    s.markActive (fun w => w.seen f) = s.setLog (s.log.modify q (Record.noteFlags f)) := by
  rw [State.markActive, h]
  rfl

/-- More than E marks that are not quiet lose settle (R71). -/
theorem State.settledSample_loses {s : State} {q : Nat} (ho : s.occ.state = .settled q) {l : Live}
    (h : s.store.work.settle.e < notQuietCount (s.windowAfter l)) :
    s.settledSample q l = ((s.setLog (s.log.modify q (Record.noteFlags l.flags))).setOcc
      { s.occ with
        state := .settling q, run := 0, ref := nextRef s.occ.ref l.flags.rejected l.v, window := quietWindow, gap := 0,
        sums := .clear, counts := { s.occ.counts with losses := satAdd 255 s.occ.counts.losses 1 } }).raise .settleLost := by
  rw [State.settledSample, State.markActive_settled ho]
  exact if_pos h

theorem State.settledSample_stays {s : State} {q : Nat} (ho : s.occ.state = .settled q) {l : Live}
    (h : ¬s.store.work.settle.e < notQuietCount (s.windowAfter l)) :
    s.settledSample q l = (s.setLog (s.log.modify q (Record.noteFlags l.flags))).setOcc
      { s.occ with
        ref := nextRef s.occ.ref l.flags.rejected l.v, window := s.windowAfter l, gap := 0,
        sums := s.occ.sums.settledSample l.flags.rejected l.v l.time } := by
  rw [State.settledSample, State.markActive_settled ho]
  exact if_neg h

theorem State.settledSample_occ {s : State} {q : Nat} (ho : s.occ.state = .settled q) (l : Live) :
    (s.settledSample q l).occ =
      { s.occ with
        state := if s.store.work.settle.e < notQuietCount (s.windowAfter l) then .settling q else .settled q
        run := if s.store.work.settle.e < notQuietCount (s.windowAfter l) then 0 else s.occ.run
        ref := nextRef s.occ.ref l.flags.rejected l.v
        window := if s.store.work.settle.e < notQuietCount (s.windowAfter l) then quietWindow else s.windowAfter l
        gap := 0
        sums := if s.store.work.settle.e < notQuietCount (s.windowAfter l) then Sums.clear
          else s.occ.sums.settledSample l.flags.rejected l.v l.time
        counts := { s.occ.counts with
          losses := if s.store.work.settle.e < notQuietCount (s.windowAfter l) then satAdd 255 s.occ.counts.losses 1
            else s.occ.counts.losses } } := by
  by_cases h : s.store.work.settle.e < notQuietCount (s.windowAfter l)
  · simp only [State.settledSample_loses ho h, if_pos h]
    rfl
  · simp only [State.settledSample_stays ho h, if_neg h, ← ho]
    rfl

theorem State.settledSample_events {s : State} {q : Nat} (ho : s.occ.state = .settled q) (l : Live) (p : Port) :
    (s.settledSample q l).events p =
      if s.store.work.settle.e < notQuietCount (s.windowAfter l) then addEvent .settleLost (s.events p) else s.events p := by
  by_cases h : s.store.work.settle.e < notQuietCount (s.windowAfter l)
  · rw [State.settledSample_loses ho h, if_pos h, State.raise_events]
    cases p <;> rfl
  · rw [State.settledSample_stays ho h, if_neg h]
    cases p <;> rfl

theorem State.settledSample_log {s : State} {q : Nat} (ho : s.occ.state = .settled q) (l : Live) :
    (s.settledSample q l).log = s.log.modify q (Record.noteFlags l.flags) := by
  by_cases h : s.store.work.settle.e < notQuietCount (s.windowAfter l)
  · rw [State.settledSample_loses ho h]
    rfl
  · rw [State.settledSample_stays ho h]
    rfl

/-- What stages 1 to 8 leave of the occupation and of its record. -/
theorem State.corrected_active {s : State} {q : Nat} (h : s.occ.state.record = some q) (seq : Nat) (l : Live) :
    (s.corrected seq l).occ =
        { s.occ with
          counts := { s.occ.counts with loss := s.occ.counts.loss || decide (s.lostNow seq ≠ 0) }
          staleness := 0 } ∧
      (s.corrected seq l).log = s.log.modify q (Record.noteLoss (decide (s.lostNow seq ≠ 0))) ∧
      ∀ p, (s.corrected seq l).events p = s.events p := by
  rw [State.corrected, State.takeSequence_active h]
  exact ⟨rfl, rfl, fun p => by cases p <;> simp [State.events, State.correctSample]⟩

theorem State.corrected_store (s : State) (seq : Nat) (l : Live) : (s.corrected seq l).store = s.store := by
  simp [State.corrected]

/-- The quiet test comes out on the state that stages 1 to 8 leave as it does before them. -/
theorem State.corrected_quietNow {s : State} {q : Nat} (h : s.occ.state.record = some q) (seq : Nat) (l : Live) :
    (s.corrected seq l).quietNow l = s.quietNow l := by
  obtain ⟨hocc, -, -⟩ := State.corrected_active h seq l
  rw [State.quietNow, State.quietNow, hocc, State.corrected_store]

/-- What no stage of a sample changes. -/
theorem State.sample_frame (s : State) (seq : Nat) (l : Live) (a : Response) :
    let t := ((s.corrected seq l).handSample l).replied .meter .sample a
    t.clock = s.clock ∧ t.survey = s.survey ∧ t.bases = s.bases ∧ t.loop = s.loop ∧ t.queue = s.queue ∧
      t.closurePos = s.closurePos ∧ t.pendingPos = s.pendingPos ∧ t.store = s.store ∧ t.nv = s.nv ∧
      t.startUp = s.startUp ∧ t.pending = s.pending := by
  simp [State.replied, State.corrected]

theorem State.sample_live (s : State) (seq : Nat) (l : Live) (a : Response) :
    (((s.corrected seq l).handSample l).replied .meter .sample a).chain.live = some l := by
  obtain ⟨-, -, -, -, -, -, hchain, -⟩ := (s.corrected seq l).handSample_frame l
  exact congrArg Chain.live hchain

/-- Settles O22: `State.settlingSample` on the state that stages 1 to 8 leave. -/
theorem sampleWhileSettling : Obligations.SampleWhileSettling := by
  intro s seq r tx ty dT flags q h hstate
  have hrec : s.occ.state.record = some q := by rw [hstate]; rfl
  refine ⟨_, s.sampleOf seq r tx ty dT flags, exec_sample_served h seq r tx ty dT flags, State.sample_live .., ?_⟩
  generalize s.sampleOf seq r tx ty dT flags = l
  intro lost rejected quiet run settles
  have hframe := s.sample_frame seq.toNat l (okAnswer .empty)
  obtain ⟨hocc, hlog, hevents⟩ := State.corrected_active hrec seq.toNat l
  have hstore := s.corrected_store seq.toNat l
  have hquiet : (s.corrected seq.toNat l).quietNow l = quiet := State.corrected_quietNow hrec _ l
  generalize s.corrected seq.toNat l = c at *
  have hrun : c.runAfter l = run := by rw [State.runAfter, hquiet, hocc]
  have hhand : c.handSample l = c.settlingSample q l := by rw [State.handSample, hocc, hstate]
  have hsettles : (settles = true) = (run = s.store.work.settle.a) := decide_eq_true_eq
  rw [hhand] at hframe ⊢
  refine ⟨?occ, fun p => ?events, ?log, hframe⟩
  case occ =>
    have hwhole := c.settlingSample_occ q l
    rw [hrun, hquiet, hstore, hocc, hstate] at hwhole
    simp only [hsettles]
    exact hwhole
  case events =>
    have hwhole := c.settlingSample_events q l p
    rw [hrun, hstore, hevents] at hwhole
    simp only [hsettles]
    refine Eq.trans ?_ hwhole
    cases p <;> rfl
  case log =>
    exact ((c.settlingSample_frame q l).2.2.2.2.2.1).trans hlog

/-- Settles O23: `State.settledSample` on the state that stages 1 to 8 leave; its mark and the loss's come together in the record. -/
theorem sampleWhileSettled : Obligations.SampleWhileSettled := by
  intro s seq r tx ty dT flags q h hstate
  have hrec : s.occ.state.record = some q := by rw [hstate]; rfl
  refine ⟨_, s.sampleOf seq r tx ty dT flags, exec_sample_served h seq r tx ty dT flags, State.sample_live .., ?_⟩
  generalize s.sampleOf seq r tx ty dT flags = l
  intro lost rejected quiet window loses a f d sums
  have hframe := s.sample_frame seq.toNat l (okAnswer .empty)
  obtain ⟨hocc, hlog, hevents⟩ := State.corrected_active hrec seq.toNat l
  have hstore := s.corrected_store seq.toNat l
  have hquiet : (s.corrected seq.toNat l).quietNow l = quiet := State.corrected_quietNow hrec _ l
  generalize s.corrected seq.toNat l = c at *
  have hwindow : c.windowAfter l = window := by
    rw [State.windowAfter, hquiet, hocc]
    rfl
  have hcstate : c.occ.state = .settled q := by rw [hocc]; exact hstate
  have hhand : c.handSample l = c.settledSample q l := by rw [State.handSample, hcstate]
  have hloses : (loses = true) = (s.store.work.settle.e < window.count true) := decide_eq_true_eq
  rw [hhand] at hframe ⊢
  refine ⟨?occ, fun p => ?events, ?log, hframe⟩
  case occ =>
    have hwhole := State.settledSample_occ hcstate l
    rw [hwindow, hstore, hocc] at hwhole
    simp only [hloses]
    exact hwhole
  case events =>
    have hwhole := State.settledSample_events hcstate l p
    rw [hwindow, hstore, hevents] at hwhole
    simp only [hloses]
    refine Eq.trans ?_ hwhole
    cases p <;> rfl
  case log =>
    have hwhole := State.settledSample_log hcstate l
    rw [hlog, Log.modify_modify _ _ (Record.noteLoss_seq _)] at hwhole
    exact hwhole

end Sys2Proof.Machine

/-! SUPPORT. The thermal filter, the interpolated drift, the phase of a constituent, and the cosine table (R29, R46, R56, R124). -/

namespace Sys2Proof.Machine

/-! ## The thermal filter (R29) -/

theorem filterStep_primed (tf dT : Int) (shift : Nat) :
    filterStep tf true dT shift = tf + (dT * 256 - tf) / ((2 ^ shift : Nat) : Int) := rfl

/-- A floored quotient by a positive divisor lies between 0 and its numerator. -/
theorem ediv_between (a : Int) {m : Nat} (hm : 0 < m) :
    (0 ≤ a → 0 ≤ a / (m : Int) ∧ a / (m : Int) ≤ a) ∧ (a ≤ 0 → a ≤ a / (m : Int) ∧ a / (m : Int) ≤ 0) := by
  have hpos : (0 : Int) < m := by exact_mod_cast hm
  refine ⟨fun h => ⟨Int.ediv_nonneg h hpos.le, Int.ediv_le_self _ h⟩, fun h => ⟨?_, ?_⟩⟩
  · rw [Int.le_ediv_iff_mul_le hpos]
    nlinarith
  · exact Int.ediv_nonpos_of_nonpos_of_neg h hpos

theorem filterStep_between (tf dT : Int) (shift : Nat) :
    (tf ≤ dT * 256 → tf ≤ filterStep tf true dT shift ∧ filterStep tf true dT shift ≤ dT * 256) ∧
      (dT * 256 ≤ tf → dT * 256 ≤ filterStep tf true dT shift ∧ filterStep tf true dT shift ≤ tf) := by
  obtain ⟨hup, hdown⟩ := ediv_between (dT * 256 - tf) (m := 2 ^ shift) (by positivity)
  rw [filterStep_primed]
  refine ⟨fun h => ?_, fun h => ?_⟩
  · have := hup (by omega)
    omega
  · have := hdown (by omega)
    omega

theorem natAbs_filterStep_le {tf dT : Int} (primed : Bool) (htf : tf.natAbs ≤ 8388352) (hdT : dT.natAbs ≤ 32767) (shift : Nat) :
    (filterStep tf primed dT shift).natAbs ≤ 8388352 := by
  cases primed with
  | false => rw [filterStep_unprimed]; omega
  | true =>
    obtain ⟨hup, hdown⟩ := filterStep_between tf dT shift
    rcases le_total tf (dT * 256) with h | h
    · have := hup h
      omega
    · have := hdown h
      omega

/-! ## The interpolated drift (R124) -/

/-- A share of an amount, rounded, lies between 0 and the amount. -/
theorem roundDiv_mul_between (d : Int) {k n : Nat} (hn : 0 < n) (hk : k ≤ n) :
    min 0 d ≤ roundDiv (d * k) n ∧ roundDiv (d * k) n ≤ max 0 d := by
  have nonneg {m : Nat} : 0 ≤ roundDiv ((m : Int) * k) n ∧ roundDiv ((m : Int) * k) n ≤ m := by
    refine ⟨roundDiv_nonneg (by positivity) n, roundDiv_le hn ?_⟩
    rw [mul_comm]
    exact_mod_cast Nat.mul_le_mul_right m hk
  obtain ⟨m, rfl | rfl⟩ := Int.eq_nat_or_neg d
  · have := nonneg (m := m)
    omega
  · have := nonneg (m := m)
    rw [neg_mul, roundDiv_neg _ hn]
    omega

theorem roundDiv_mul_self (d : Int) {n : Nat} (hn : 0 < n) : roundDiv (d * n) n = d := by
  have hnear := roundDiv_nearest (d * n) hn
  have hmul : d * n - n * roundDiv (d * n) n = n * (d - roundDiv (d * n) n) := by ring
  rw [hmul, Int.natAbs_mul, Int.natAbs_natCast] at hnear
  have hzero : (d - roundDiv (d * n) n).natAbs = 0 := by
    by_contra hne
    have hle : n * 1 ≤ n * (d - roundDiv (d * n) n).natAbs := Nat.mul_le_mul_left n (Nat.one_le_iff_ne_zero.2 hne)
    omega
  omega

/-- The drift of a closure whose ties span time: the share of the misclosure that the time, clamped between the ties, has of the span. -/
theorem finalDrift_of_span {e : ClosureEntry} (h : e.a.time < e.b.time) (tm : Nat) :
    finalDrift e tm = e.a.off +
      roundDiv ((e.b.off - e.a.off) * ((max e.a.time (min e.b.time tm) - e.a.time : Nat) : Int)) (e.b.time - e.a.time) := by
  have hclamp : clampInt (e.a.time : Int) (e.b.time : Int) (tm : Int) - (e.a.time : Int) =
      ((max e.a.time (min e.b.time tm) - e.a.time : Nat) : Int) := by
    unfold clampInt
    split_ifs <;> omega
  rw [finalDrift, if_pos h]
  dsimp only
  rw [hclamp]

theorem finalDrift_of_noSpan {e : ClosureEntry} (h : e.b.time ≤ e.a.time) (tm : Nat) : finalDrift e tm = e.a.off :=
  if_neg (Nat.not_lt.2 h)

theorem finalDrift_between (e : ClosureEntry) (tm : Nat) :
    min e.a.off e.b.off ≤ finalDrift e tm ∧ finalDrift e tm ≤ max e.a.off e.b.off := by
  by_cases h : e.a.time < e.b.time
  · have hshare := roundDiv_mul_between (e.b.off - e.a.off) (k := max e.a.time (min e.b.time tm) - e.a.time)
      (n := e.b.time - e.a.time) (by omega) (by omega)
    rw [finalDrift_of_span h]
    omega
  · rw [finalDrift_of_noSpan (Nat.not_lt.1 h)]
    omega

/-- Settles O21: a floored quotient lies between 0 and its numerator, and a rounded share between 0 and the amount. -/
theorem filterAndDriftStayBetween : Obligations.FilterAndDriftStayBetween := by
  refine ⟨fun tf dT shift => ⟨filterStep_unprimed tf dT shift, (filterStep_between tf dT shift).1,
    (filterStep_between tf dT shift).2, fun primed htf hdT => natAbs_filterStep_le primed htf hdT shift⟩,
    fun e tm => ⟨fun h htm => ?_, fun h htm => ?_, fun h => finalDrift_of_noSpan h tm, finalDrift_between e tm⟩⟩
  · have hstart : max e.a.time (min e.b.time tm) - e.a.time = 0 := by omega
    rw [finalDrift_of_span h, hstart, Nat.cast_zero, mul_zero, roundDiv_zero (by omega), add_zero]
  · have hend : max e.a.time (min e.b.time tm) - e.a.time = e.b.time - e.a.time := by omega
    rw [finalDrift_of_span h, hend, roundDiv_mul_self _ (by omega)]
    omega

/-! ## The phase of a constituent (R56) -/

/-- The phase is the sum of its three parts modulo a turn: the modulo of the product drops out. -/
theorem Constituent.phase_eq (c : Constituent) (t lam : Nat) :
    c.phase t lam = (c.p + c.f * t / 2 ^ 20 + c.species * lam) % 2 ^ 24 := by
  have hquot : c.f * t % (2 ^ 20 * 2 ^ 24) / 2 ^ 20 = c.f * t / 2 ^ 20 % 2 ^ 24 := Nat.mod_mul_right_div_self _ _ _
  norm_num at hquot
  unfold Constituent.phase
  norm_num
  rw [hquot]
  omega

theorem Constituent.phase_succ (c : Constituent) (t lam : Nat) :
    c.phase (t + 1) lam = (c.phase t lam + c.f / 2 ^ 20) % 2 ^ 24 ∨
      c.phase (t + 1) lam = (c.phase t lam + c.f / 2 ^ 20 + 1) % 2 ^ 24 := by
  simp only [Constituent.phase_eq, mul_add_one]
  omega

/-! ## The cosine table (R46) -/

/-- A table in rows of `n` entries, the last row perhaps shorter, is read row by row. -/
theorem getElem?_flatten_of_rows {α : Type} {n : Nat} (hn : 0 < n) (rows : List (List α))
    (hfull : ∀ r ∈ rows.dropLast, r.length = n) (hle : ∀ r ∈ rows, r.length ≤ n) (j : Nat) :
    (rows[j / n]?.getD [])[j % n]? = rows.flatten[j]? := by
  induction rows generalizing j with
  | nil => simp
  | cons r rest ih =>
    by_cases hj : j < n
    · rw [Nat.div_eq_of_lt hj, Nat.mod_eq_of_lt hj, List.flatten_cons]
      cases rest with
      | nil => simp
      | cons x xs =>
        have hlen : r.length = n := hfull r (by simp)
        rw [List.getElem?_append_left (by omega)]
        simp
    · have hdiv : j / n = (j - n) / n + 1 := by
        rw [← Nat.add_div_right _ hn, Nat.sub_add_cancel (by omega)]
      have hmod : j % n = (j - n) % n := Nat.mod_eq_sub_mod (by omega)
      rw [hdiv, hmod, List.getElem?_cons_succ, List.flatten_cons]
      cases rest with
      | nil =>
        have hlen := hle r (by simp)
        simp
        omega
      | cons x xs =>
        have hlen : r.length = n := hfull r (by simp)
        rw [List.getElem?_append_right (by omega), hlen]
        exact ih (fun y hy => hfull y (by rw [List.dropLast_cons_cons]; exact List.mem_cons_of_mem _ hy))
          (fun y hy => hle y (List.mem_cons_of_mem _ hy)) (j - n)

theorem cosQuarter_eq (j : Nat) : cosQuarter j = (cosRows.flatten[j]?).getD 0 := by
  rw [cosQuarter, getElem?_flatten_of_rows (by decide) cosRows (by decide) (by decide)]

theorem cosRows_nonincreasing : cosRows.flatten.IsChain (· ≥ ·) :=
  (List.isChain_flatten (by decide)).2 ⟨by decide, by decide⟩

theorem cosRows_length : cosRows.flatten.length = 1025 := by
  rw [List.length_flatten]
  rfl

theorem cosQuarter_zero : cosQuarter 0 = 32767 := by decide

theorem cosQuarter_succ_le {j : Nat} (h : j < 1024) : cosQuarter (j + 1) ≤ cosQuarter j := by
  have hlen := cosRows_length
  have hchain := List.isChain_iff_getElem.1 cosRows_nonincreasing j (by omega)
  rw [cosQuarter_eq, cosQuarter_eq, List.getElem?_eq_getElem (by omega), List.getElem?_eq_getElem (by omega)]
  exact hchain

theorem cosQuarter_le {j : Nat} (h : j ≤ 1024) : cosQuarter j ≤ 32767 := by
  induction j with
  | zero => exact cosQuarter_zero.le
  | succ j ih => exact (cosQuarter_succ_le (by omega)).trans (ih (by omega))

/-- Each entry is one of the first quarter's, or its negative. -/
theorem cosEntry_eq (j : Nat) (h : j ≤ 4095) : ∃ i ≤ 1024, cosEntry j = cosQuarter i ∨ cosEntry j = -(cosQuarter i : Int) := by
  unfold cosEntry
  split_ifs with h1 h2 h3
  · exact ⟨j, h1, .inl rfl⟩
  · exact ⟨2048 - j, by omega, .inr rfl⟩
  · exact ⟨j - 2048, by omega, .inr rfl⟩
  · exact ⟨4096 - j, by omega, .inl rfl⟩

theorem cosEntry_first {j : Nat} (h : j ≤ 1024) : cosEntry j = cosQuarter j := if_pos h

theorem cosEntry_second {j : Nat} (h1 : 1024 ≤ j) (h2 : j ≤ 2048) : cosEntry j = -(cosQuarter (2048 - j) : Int) := by
  rcases h1.eq_or_lt with rfl | hlt
  · rfl
  · rw [cosEntry, if_neg (by omega), if_pos h2]

theorem cosEntry_third {j : Nat} (h1 : 2048 ≤ j) (h2 : j ≤ 3072) : cosEntry j = -(cosQuarter (j - 2048) : Int) := by
  rcases h1.eq_or_lt with rfl | hlt
  · rfl
  · rw [cosEntry, if_neg (by omega), if_neg (by omega), if_pos h2]

theorem cosEntry_fourth {j : Nat} (h : 3072 ≤ j) : cosEntry j = cosQuarter (4096 - j) := by
  rcases h.eq_or_lt with rfl | hlt
  · rfl
  · rw [cosEntry, if_neg (by omega), if_neg (by omega), if_neg (by omega)]

theorem cosEntry_reflect {j : Nat} (h : j ≤ 4096) : cosEntry (4096 - j) = cosEntry j := by
  have hquarter : j ≤ 1024 ∨ (1024 ≤ j ∧ j ≤ 2048) ∨ (2048 ≤ j ∧ j ≤ 3072) ∨ 3072 ≤ j := by omega
  obtain h1 | ⟨h1, h2⟩ | ⟨h1, h2⟩ | h1 := hquarter
  · rw [cosEntry_fourth (by omega), cosEntry_first h1, Nat.sub_sub_self h]
  · rw [cosEntry_third (by omega) (by omega), cosEntry_second h1 h2, Nat.sub_right_comm]
  · rw [cosEntry_second (by omega) (by omega), cosEntry_third h1 h2, show 2048 - (4096 - j) = j - 2048 by omega]
  · rw [cosEntry_first (by omega), cosEntry_fourth h1]

theorem cosEntry_half {j : Nat} (h : j ≤ 2048) : cosEntry (j + 2048) = -cosEntry j := by
  rcases Nat.le_total j 1024 with h1 | h1
  · rw [cosEntry_third (by omega) (by omega), cosEntry_first h1, Nat.add_sub_cancel]
  · rw [cosEntry_fourth (by omega), cosEntry_second h1 h, Int.neg_neg, show 4096 - (j + 2048) = 2048 - j by omega]

/-- Settles O25: the phase is a sum modulo a turn; the table's symmetries come from `cosEntry`'s four quarters, its bounds and its fall
from the first quarter's rows. -/
theorem tidePhaseAndCosineTable : Obligations.TidePhaseAndCosineTable := by
  refine ⟨fun c t lam _ => ⟨?_, c.phase_succ t lam⟩, fun j _ h2 => cosEntry_reflect (by omega), fun j h => cosEntry_half (by omega),
    fun j h => ?_, fun j h => ?_, by decide⟩
  · rw [Constituent.phase_eq]
    exact Nat.mod_lt _ (by decide)
  · obtain ⟨i, hi, hj⟩ := cosEntry_eq j h
    have hle := cosQuarter_le hi
    omega
  · have hle := cosQuarter_succ_le h
    rw [cosEntry, cosEntry, if_pos (by omega), if_pos (by omega)]
    exact_mod_cast hle

end Sys2Proof.Machine

/-! SUPPORT. OCCUPY and OCCUPY NEXT (section 4.4): what an accepted one leaves, and the checks in their order. -/

namespace Sys2Proof.Machine

theorem Log.full_iff (l : Log) : l.full = true ↔ 512 ≤ l.records.length ∨ 4294967296 ≤ l.counter := by
  simp [Log.full]

theorem Position.ok_iff (x : Position) : x.ok = true ↔ x.lat.natAbs ≤ 90000000 ∧ x.lon.natAbs ≤ 180000000 := by
  simp only [Position.ok, Bool.and_eq_true, decide_eq_true_eq]
  omega

theorem findBase_isSome (bases : List BaseEntry) (id : Nat) : (findBase bases id).isSome = bases.any fun e => e.id == id :=
  List.isSome_find?

theorem findBase_isNone (bases : List BaseEntry) (id : Nat) : (findBase bases id).isNone = !bases.any fun e => e.id == id := by
  rw [← findBase_isSome, Option.not_isSome]

theorem kindOf_eq_base_iff (b : Byte) : kindOf b = some .base ↔ b = 1 := by
  unfold kindOf
  split_ifs with h0 h1
  · exact iff_of_false (by decide) (by rw [h0]; decide)
  · exact iff_of_true rfl h1
  · exact iff_of_false (by decide) h1

theorem kindOf_eq_none_iff (b : Byte) : kindOf b = none ↔ ¬(b = 0 ∨ b = 1) := by
  unfold kindOf
  split_ifs with h0 h1
  · exact iff_of_false (by decide) (· (.inl h0))
  · exact iff_of_false (by decide) (· (.inr h1))
  · exact iff_of_true rfl (not_or.2 ⟨h0, h1⟩)

/-- LOG_NEAR_FULL joins what the rest of a start leaves. -/
theorem State.startOccupation_eq (s : State) (p : Port) (o : Start) :
    s.startOccupation p o =
      let t := ((s.setLog { records := s.log.records ++ [s.newRecord p o], counter := s.log.counter + 1 }).advanceLine o).setOcc
        (s.occ.begun s.log.counter)
      if s.log.records.length = 479 then t.raise .logNearFull else t := by
  rw [State.startOccupation, State.appendRecord]
  split_ifs <;> cases h : o.kind <;> simp only [State.advanceLine, h] <;> rfl

/-! ## The checks in order (R64) -/

section
variable {s : State} {code : Byte} {id lat lon : U32}

theorem opOccupy_state_refused (h : s.survey.state ≠ .survey) : opOccupy .survey code id lat lon s = refuse s .state := if_pos h

theorem opOccupy_active_refused (h : s.survey.state = .survey) (hact : s.occ.isActive = true) :
    opOccupy .survey code id lat lon s = refuse s .active := by
  simp [opOccupy, h, hact]

theorem opOccupy_full_refused (h : s.survey.state = .survey) (hidle : s.occ.isActive = false) (hfull : s.log.full = true) :
    opOccupy .survey code id lat lon s = refuse s .logFull := by
  simp [opOccupy, h, hidle, hfull]

/-- The three checks that both kinds share pass. -/
def State.canStart (s : State) : Prop := s.survey.state = .survey ∧ s.occ.isActive = false ∧ s.log.full = false

theorem opOccupy_noBase_refused (h : s.canStart) (hk : kindOf code = some .base) (hb : (findBase s.bases id.toNat).isNone = true) :
    opOccupy .survey code id lat lon s = refuse s .noBase := by
  obtain ⟨hs, hidle, hfull⟩ := h
  simp only [opOccupy, hs, hidle, hfull, hk, hb, ne_eq, not_true_eq_false, Bool.false_eq_true, if_false, and_self, if_true]

theorem opOccupy_kind_refused (h : s.canStart) (hk : kindOf code = none) :
    opOccupy .survey code id lat lon s = refuse s .range := by
  obtain ⟨hs, hidle, hfull⟩ := h
  simp only [opOccupy, hs, hidle, hfull, hk, ne_eq, not_true_eq_false, Bool.false_eq_true, if_false, reduceCtorEq, false_and]

/-- With a kind and, for a BASE, an entry of the table, the ranges decide. -/
theorem opOccupy_ranged (h : s.canStart) {k : Kind} (hk : kindOf code = some k)
    (hb : k = .base → (findBase s.bases id.toNat).isSome = true) :
    opOccupy .survey code id lat lon s =
      if stationOk id.toNat && (positionOf lat lon).ok then
        accept (s.startOccupation .survey { kind := k, station := id.toNat, pos := positionOf lat lon, source := .given })
          (.created s.log.counter id.toNat k .given)
      else refuse s .range := by
  obtain ⟨hs, hidle, hfull⟩ := h
  have hcheck : ¬(kindOf code = some .base ∧ (findBase s.bases id.toNat).isNone = true) := by
    rintro ⟨hbase, hnone⟩
    have hsome := hb (Option.some.inj (hk.symm.trans hbase))
    rw [Option.isNone_iff_eq_none] at hnone
    rw [hnone] at hsome
    exact absurd hsome (by decide)
  rw [opOccupy, if_neg (not_not.2 hs), if_neg (by simp [hidle]), if_neg (by simp [hfull]), if_neg hcheck]
  simp only [hk, createdAnswer]

end

theorem Log.full_eq_false {l : Log} (h : ¬(512 ≤ l.records.length ∨ 4294967296 ≤ l.counter)) : l.full = false :=
  Bool.eq_false_iff.2 (h ∘ l.full_iff.1)

theorem State.canStart_of {s : State} (hs : s.survey.state = .survey) (hidle : s.occ.state = .none)
    (hfull : ¬(512 ≤ s.log.records.length ∨ 4294967296 ≤ s.log.counter)) : s.canStart :=
  ⟨hs, s.occ.isActive_eq_false_iff.2 hidle, Log.full_eq_false hfull⟩

theorem Occupation.isActive_of_ne {o : Occupation} (h : o.state ≠ .none) : o.isActive = true :=
  Bool.of_not_eq_false (h ∘ o.isActive_eq_false_iff.1)

/-- Settles O26: the checks pass one after another, and the start's stages are one state. -/
theorem occupyCreatesARecord : Obligations.OccupyCreatesARecord := by
  intro s code kind id lat lon hready hs hidle hlen hcounter hkind hid1 hid2 hlat hlon record next t
  have hstart : s.canStart := State.canStart_of hs hidle (by omega)
  have hcode : kindOf code = some kind := by
    obtain ⟨rfl, rfl⟩ | ⟨rfl, rfl, -⟩ := hkind <;> rfl
  have hbase : kind = .base → (findBase s.bases id.toNat).isSome = true := by
    rintro rfl
    obtain ⟨-, hne⟩ | ⟨-, -, hlisted⟩ := hkind
    · exact absurd hne (by decide)
    · rw [findBase_isSome]
      exact hlisted
  have hrange : (stationOk id.toNat && (positionOf lat lon).ok) = true := by
    rw [Bool.and_eq_true, stationOk_iff, Position.ok_iff]
    exact ⟨⟨hid1, hid2⟩, hlat, hlon⟩
  have hop := opOccupy_ranged (lat := lat) (lon := lon) hstart hcode hbase
  rw [if_pos hrange, State.startOccupation_eq] at hop
  refine exec_ready_served (by rfl) (by decide) hready (hop.trans ?_)
  cases kind <;> rfl

/-! ## OCCUPY NEXT -/

theorem opOccupyNext_of_canStart {s : State} (h : s.canStart) (p : Port) :
    opOccupyNext p s =
      match s.survey.nextId with
      | none => refuse s .noId
      | some id =>
        match s.nextPosition with
        | none => refuse s .noPosition
        | some (pos, source) =>
          accept ((s.startOccupation p { kind := .station, station := id, pos := pos, source := source }).setPendingPos none)
            (.created s.log.counter id .station source) := by
  obtain ⟨hs, hidle, hfull⟩ := h
  rw [opOccupyNext, if_neg (not_not.2 hs), if_neg (by simp [hidle]), if_neg (by simp [hfull])]
  rfl

/-- Settles O27: as OCCUPY, at the next station id and the position that stands for it. -/
theorem occupyNextContinuesTheLine : Obligations.OccupyNextContinuesTheLine := by
  intro s p id pos source hready hs hidle hlen hcounter hid hpos record next t
  have hstart : s.canStart := State.canStart_of hs hidle (by omega)
  have hnext : s.nextPosition = some (pos, source) := by
    obtain ⟨hp, rfl⟩ | ⟨hp, rfl, r, hr, rfl⟩ := hpos
    · rw [State.nextPosition, hp]
    · rw [State.nextPosition, hp, Log.newest, hr]
      rfl
  have hop := opOccupyNext_of_canStart hstart p
  rw [hid, hnext] at hop
  dsimp only at hop
  rw [State.startOccupation_eq] at hop
  refine exec_ready_served (by rfl) (by decide) hready (hop.trans ?_)
  dsimp only
  split_ifs <;> rfl

/-- Settles O28: each clause is the first check that fails. -/
theorem occupyRefusalsInOrder : Obligations.OccupyRefusalsInOrder := by
  intro s p code id lat lon full listed inRange first second
  refine ⟨fun hready => ?_, fun hready => ?_⟩
  · have hserved {st : Status} (h : opOccupy .survey code id lat lon s = refuse s st) : first st :=
      exec_ready_served (by rfl) (by decide) hready h
    refine ⟨fun hs => hserved (opOccupy_state_refused hs), fun hs hact => hserved (opOccupy_active_refused hs ?_),
      fun hs hidle hfull => hserved (opOccupy_full_refused hs ?_ (s.log.full_iff.2 hfull)),
      fun hs hidle hfull hcode hlisted => hserved (opOccupy_noBase_refused (State.canStart_of hs hidle hfull) ?_ ?_),
      fun hs hidle hfull hlisted hrange => hserved ?_⟩
    · exact Occupation.isActive_of_ne hact
    · exact s.occ.isActive_eq_false_iff.2 hidle
    · exact (kindOf_eq_base_iff code).2 hcode
    · rw [findBase_isNone, Bool.not_eq_true']
      exact Bool.eq_false_iff.2 hlisted
    · have hstart : s.canStart := State.canStart_of hs hidle hfull
      cases hk : kindOf code with
      | none => exact opOccupy_kind_refused hstart hk
      | some k =>
        have hcode : code = 0 ∨ code = 1 := by
          by_contra hnot
          rw [(kindOf_eq_none_iff code).2 hnot] at hk
          exact absurd hk (by simp)
        rw [opOccupy_ranged hstart hk, if_neg]
        · rw [Bool.and_eq_true, stationOk_iff, Position.ok_iff]
          exact fun ⟨⟨h1, h2⟩, h3, h4⟩ => hrange ⟨hcode, h1, h2, h3, h4⟩
        · rintro rfl
          rw [findBase_isSome]
          exact hlisted ((kindOf_eq_base_iff code).1 hk)
  · have hserved {st : Status} (h : opOccupyNext p s = refuse s st) : second st :=
      exec_ready_served (by rfl) (by decide) hready h
    refine ⟨fun hs => hserved (if_pos hs), fun hs hact => hserved ?_, fun hs hidle hfull => hserved ?_,
      fun hs hidle hfull hid => hserved ?_, fun hs hidle hfull hid hpos hlog => hserved ?_⟩
    · rw [opOccupyNext, if_neg (not_not.2 hs), if_pos (Occupation.isActive_of_ne hact)]
    · rw [opOccupyNext, if_neg (not_not.2 hs), if_neg (by simp [s.occ.isActive_eq_false_iff.2 hidle]),
        if_pos (s.log.full_iff.2 hfull)]
    · rw [opOccupyNext_of_canStart (State.canStart_of hs hidle hfull), hid]
    · obtain ⟨x, hx⟩ := Option.ne_none_iff_exists'.1 hid
      have hnext : s.nextPosition = none := by rw [State.nextPosition, hpos, Log.newest, hlog]; rfl
      rw [opOccupyNext_of_canStart (State.canStart_of hs hidle hfull), hx, hnext]

end Sys2Proof.Machine

/-! SUPPORT. END and ABANDON (section 4.9) with the reductions and ties of an accepted END (sections 6.4 and 6.5). -/

namespace Sys2Proof.Machine

/-! ## The checks in order -/

theorem opEnd_state_refused {s : State} (h : s.inSurvey = false) (p : Port) : opEnd p s = refuse s .state := by
  rw [opEnd, if_pos (by rw [h]; rfl)]

theorem opAbandon_state_refused {s : State} (h : s.inSurvey = false) (p : Port) : opAbandon p s = refuse s .state := by
  rw [opAbandon, if_pos (by rw [h]; rfl)]

theorem opEnd_idle_refused {s : State} (h : s.inSurvey = true) (hidle : s.activeRecord = none) (p : Port) :
    opEnd p s = refuse s .idle := by
  rw [opEnd, if_neg (by rw [h]; decide), hidle]

theorem opAbandon_idle_refused {s : State} (h : s.inSurvey = true) (hidle : s.activeRecord = none) (p : Port) :
    opAbandon p s = refuse s .idle := by
  rw [opAbandon, if_neg (by rw [h]; decide), hidle]

theorem opEnd_of_active {s : State} (h : s.inSurvey = true) {r : Record} (hr : s.activeRecord = some r) (p : Port) :
    opEnd p s = if s.queueBlocks r then refuse s .queueFull else accept (s.endAccepted p r) (.completed r.seq) := by
  rw [opEnd, if_neg (by rw [h]; decide), hr]

theorem opAbandon_accepted {s : State} (h : s.inSurvey = true) {r : Record} (hr : s.activeRecord = some r) (p : Port) :
    opAbandon p s = accept (s.abandonAccepted p r) (.completed r.seq) := by
  rw [opAbandon, if_neg (by rw [h]; decide), hr]

theorem State.queueBlocks_iff (s : State) (r : Record) :
    s.queueBlocks r = true ↔ r.kind = .base ∧ s.store.work.settle.minCount ≤ s.occ.sums.n ∧ s.loop.opening.isSome = true ∧
      4 ≤ s.queue.length := by
  simp [State.queueBlocks, and_assoc]

theorem State.activeRecord_of_idle {s : State} (h : s.occ.state = .none) : s.activeRecord = none := by
  rw [State.activeRecord, h]
  rfl

/-! ## The station result and the reduction -/

theorem stationResult_eq (a : Sums) (c : Counts) :
    stationResult a c =
      match a.first with
      | some f =>
        if a.n = 0 then none
        else some
          { n := a.n, rejected := a.rejected, mean := f.v + roundDiv a.sumD a.n, time := a.meanTime f.t, scatter := a.scatter,
            gaps := c.gaps, losses := c.losses }
      | none => none := by
  rw [stationResult, Sums.mean]
  cases a.first with
  | none => rfl
  | some f => split_ifs <;> rfl

/-- The reduction part that an END without a tie leaves (R119 to R121). -/
def untiedReduction (l : LoopCtx) (ll : Nat) (r : Record) : Reduction :=
  match r.result with
  | none => r.red
  | some res => stationReduction l res ll

theorem State.reduceEnded_untied (s : State) {r : Record} (h : r.result = none ∨ ¬(r.kind = .base ∧ r.quality.short = false)) :
    s.reduceEnded r =
      s.putRecord { r with
        quality := { r.quality with tieRejected := r.kind == .base }
        red := untiedReduction s.loop s.store.work.loop.ll r } := by
  cases hres : r.result with
  | none => simp only [State.reduceEnded, untiedReduction, hres]
  | some res =>
    have hno : ¬(r.kind = .base ∧ r.quality.short = false) := h.resolve_left (by rw [hres]; exact Option.some_ne_none _)
    simp only [State.reduceEnded, untiedReduction, hres]
    rw [if_neg hno]

/-- Settles O29: the station result is absent, or the record is none that forms a tie; either way the record alone is written. -/
theorem endWithoutATie : Obligations.EndWithoutATie := by
  intro s p r hready hs hr hnotie hqueue a k result reduction done
  have hresult : stationResult s.occ.sums s.occ.counts = result := stationResult_eq ..
  have hreduction (res : Result) : stationReduction s.loop res s.store.work.loop.ll = reduction res := by
    cases ho : s.loop.opening with
    | none =>
      simp only [stationReduction, reduction, ho, reductionOf, Int.sub_zero]
      rfl
    | some tie => cases hp : s.loop.prediction <;> simp only [stationReduction, reduction, provisionalDrift, ho, hp] <;> rfl
  have hred : untiedReduction s.loop s.store.work.loop.ll (s.endedRecord p r) = done.red := by
    have hres : (s.endedRecord p r).result = result := hresult
    clear_value result reduction
    cases result with
    | none => rw [untiedReduction, hres]; rfl
    | some res => rw [untiedReduction, hres]; exact hreduction res
  have hkind : (s.endedRecord p r).result = none ∨ ¬((s.endedRecord p r).kind = .base ∧ (s.endedRecord p r).quality.short = false) := by
    have hres : (s.endedRecord p r).result = stationResult s.occ.sums s.occ.counts := rfl
    have hshort : (s.endedRecord p r).quality.short = (r.quality.short || decide (s.occ.sums.n < s.store.work.settle.minCount)) := rfl
    rw [hres, stationResult_eq, hshort, Bool.or_eq_false_iff, decide_eq_false_iff_not]
    obtain hstation | hfew | hflag | hzero | hnone := hnotie
    · exact .inr fun h => absurd (hstation.symm.trans h.1) (by decide)
    · exact .inr fun h => h.2.2 hfew
    · exact .inr fun h => absurd (hflag.symm.trans h.2.1) (by decide)
    · cases hf : s.occ.sums.first with
      | none => exact .inl rfl
      | some f => exact .inl (if_pos hzero)
    · rw [hnone]
      exact .inl rfl
  have hreduce : s.reduceEnded (s.endedRecord p r) = s.putRecord done := by
    rw [State.reduceEnded_untied s hkind, hred]
    exact congrArg (fun x => s.putRecord { done with result := x }) hresult
  have hop := opEnd_of_active (s.inSurvey_iff.2 hs) hr p
  rw [if_neg (hqueue ∘ (s.queueBlocks_iff r).1), State.endAccepted, hreduce] at hop
  exact exec_ready_served (by rfl) (by decide) hready hop

/-! ## Ties at END -/

theorem adoptedValue_of_find {bases : List BaseEntry} {id : Nat} {e : BaseEntry}
    (h : bases.find? (fun x => x.id == id) = some e) : adoptedValue bases id = e.value := by
  rw [adoptedValue, findBase, h]

theorem State.reduceEnded_first {s : State} {r : Record} {res : Result} (hres : r.result = some res)
    (hr : r.kind = .base ∧ r.quality.short = false) (ho : s.loop.opening = none) :
    s.reduceEnded r = s.firstTie r (tieOf s.bases r res) := by
  simp only [State.reduceEnded, hres, ho]
  exact if_pos hr

theorem State.reduceEnded_closing {s : State} {r : Record} {res : Result} {a : Tie} (hres : r.result = some res)
    (hr : r.kind = .base ∧ r.quality.short = false) (ho : s.loop.opening = some a) :
    s.reduceEnded r = s.closingTie r a (tieOf s.bases r res) := by
  simp only [State.reduceEnded, hres, ho]
  exact if_pos hr

/-- The closure position that a queued closure leaves: its own start where it is the only one (R123). -/
theorem State.closingTie_eq (s : State) (r : Record) (a b : Tie) :
    s.closingTie r a b =
      { s with
        log := s.log.modify r.seq fun _ =>
          { r with
            red := { tieReduction b (adoptedValue s.bases r.station) with
              misclosed := misclosed a b s.store.work.loop.limit, long := isLong a b s.store.work.loop.ll }
            role := .closing }
        queue := s.queue ++ [{ loop := s.loop.counter, a := a, b := b }]
        closurePos := if s.queue = [] then some (a.seq + 1) else s.closurePos
        loop :=
          { counter := s.loop.counter + 1, opening := some b
            prediction := predictionOf a b s.store.work.loop.limit } : State }.raise .tieFormed := by
  rw [State.closingTie]
  cases h : s.queue with
  | nil => rfl
  | cons x xs =>
    rw [if_neg (List.cons_ne_nil x xs)]
    rfl

/-- Settles O30: the completed record has a result and is not SHORT, so the loop engine forms the tie; its offset is from the value
the table holds. -/
theorem endFormsATie : Obligations.EndFormsATie := by
  intro s p r e f hready hs hr hbase hshort hmin hn hf he a k mean time tie done log occ
  have hin := s.inSurvey_iff.2 hs
  have hadopted : adoptedValue s.bases r.station = e.value := adoptedValue_of_find he
  have hquality : r.quality.ended s.occ.sums s.store.work.settle.minCount = (done (false, false) .none).quality := by
    simp [Quality.ended, done, a, hshort, hn, hmin]
  have hresult : stationResult s.occ.sums s.occ.counts = (done (false, false) .none).result := by
    rw [stationResult_eq, hf]
    exact if_neg (by omega)
  have hended : s.endedRecord p r = { done (false, false) .none with red := r.red, role := r.role } := by
    rw [State.endedRecord, hquality, hresult]
    rfl
  have hnotie : (s.endedRecord p r).kind = .base ∧ (s.endedRecord p r).quality.short = false := by
    rw [hended]
    exact ⟨hbase, hshort⟩
  refine ⟨fun ho => ?_, fun o ho hq => ?_⟩
  · have hreduce := State.reduceEnded_first (by rw [hended]) hnotie ho
    have hop := opEnd_of_active hin hr p
    rw [if_neg (fun h => by simp [s.queueBlocks_iff, ho] at h), State.endAccepted, hreduce, hended] at hop
    refine exec_ready_served (by rfl) (by decide) hready (hop.trans ?_)
    simp only [State.firstTie, tieOf, tieReduction, done, hadopted]
    rfl
  · have hreduce := State.reduceEnded_closing (by rw [hended]) hnotie ho
    have hop := opEnd_of_active hin hr p
    rw [if_neg (fun h => by simp [s.queueBlocks_iff, ho] at h; omega), State.endAccepted, hreduce, hended, State.closingTie_eq] at hop
    refine exec_ready_served (by rfl) (by decide) hready (hop.trans ?_)
    simp only [tieOf, tieReduction, done, hadopted]
    rfl

/-- Settles O31: each clause is the first check that fails, and an accepted ABANDON writes its record alone. -/
theorem abandonAndRefusals : Obligations.AbandonAndRefusals := by
  refine ⟨fun s p hready => ?_, fun s p r hready hs hr => ?_⟩
  · intro endAnswers abandonAnswers
    have hend {st : Status} (h : opEnd p s = refuse s st) : endAnswers st := exec_ready_served (by rfl) (by decide) hready h
    have habandon {st : Status} (h : opAbandon p s = refuse s st) : abandonAnswers st :=
      exec_ready_served (by rfl) (by decide) hready h
    refine ⟨fun hs => ?_, fun hs hidle => ?_, fun r hs hr hbase hmin hopen hqueue => ?_⟩
    · have hout : s.inSurvey = false := by
        rw [Bool.eq_false_iff, ne_eq, s.inSurvey_iff]
        obtain hs | hs := hs <;> simp [hs]
      exact ⟨hend (opEnd_state_refused hout p), habandon (opAbandon_state_refused hout p)⟩
    · have hin := s.inSurvey_iff.2 hs
      have hnone := State.activeRecord_of_idle hidle
      exact ⟨hend (opEnd_idle_refused hin hnone p), habandon (opAbandon_idle_refused hin hnone p)⟩
    · refine hend ((opEnd_of_active (s.inSurvey_iff.2 hs) hr p).trans (if_pos ?_))
      exact (s.queueBlocks_iff r).2 ⟨hbase, hmin, hopen, hqueue⟩
  · exact exec_ready_served (by rfl) (by decide) hready (opAbandon_accepted (s.inSurvey_iff.2 hs) hr p)

end Sys2Proof.Machine

/-! SUPPORT. The log's requests (sections 5.4 and 5.5), the base table's (section 6.1), and the closure step (section 6.6). -/

namespace Sys2Proof.Machine

/-! ## Reading the log -/

theorem Log.lowMark_eq (l : Log) : l.lowMark = match l.records.head? with | some r => r.seq | none => l.counter := by
  rw [Log.lowMark]
  cases l.records <;> rfl

theorem Log.endsWith_eq (l : Log) (rs : List Record) :
    l.endsWith rs = (decide (rs = []) || rs.getLast?.map (·.seq) == l.records.getLast?.map (·.seq)) := by
  cases rs <;> rfl

/-- Settles O32: both reads are one read from a cursor not below the low mark. -/
theorem logReadsMoveTheCursor : Obligations.LogReadsMoveTheCursor := by
  intro s p q low page atEnd
  have hlow : s.log.lowMark = low := s.log.lowMark_eq
  have hpage (c : Nat) : s.log.from c (recordsPerResponse p) = page c := by cases p <;> rfl
  have hend (c : Nat) : s.log.endsWith (page c) = atEnd c := s.log.endsWith_eq _
  have hread (c : Nat) (skipped : Bool) :
      s.readFrom p c skipped = accept (s.setCursor p (some (c + (page c).length))) (.records (page c) (atEnd c) skipped) := by
    rw [State.readFrom, hpage, hend]
  refine ⟨fun hready => ?_, fun hready => ⟨fun hnone => ?_, fun c0 hc => ?_⟩⟩
  · exact exec_ready_served (by rfl) (by decide) hready ((congrArg (fun c => s.readFrom p (max q.toNat c) false) hlow).trans (hread ..))
  · refine exec_ready_served (by rfl) (by decide) hready (?_ : opReadLogNext p s = refuse s .noCursor)
    rw [opReadLogNext, hnone]
  · refine exec_ready_served (by rfl) (by decide) hready ((?_ : opReadLogNext p s = s.readFrom p (max c0 low) (decide (c0 < low))).trans
      (hread ..))
    simp only [opReadLogNext, hc, hlow]
    split_ifs with hbelow
    · rw [max_eq_right hbelow.le, decide_eq_true hbelow]
    · rw [max_eq_left (not_lt.1 hbelow), decide_eq_false hbelow]

/-! ## Purging -/

theorem State.inProtectedLoop_iff (s : State) (r : Record) :
    s.inProtectedLoop r = true ↔ (s.survey.state = .survey ∨ s.survey.state = .held) ∧ r.survey = s.survey.number ∧
      (s.loop.opening ≠ none ∧ r.loopNo = s.loop.counter ∨ ∃ e ∈ s.queue, r.loopNo = e.loop) := by
  rw [State.inProtectedLoop, Bool.and_eq_true, State.inSurvey_iff]
  refine and_congr_right fun _ => ?_
  simp only [Record.belongs, Bool.or_eq_true, Bool.and_eq_true, decide_eq_true_eq, List.any_eq_true, Option.isSome_iff_ne_none]
  constructor
  · rintro (⟨ho, hs, hl⟩ | ⟨e, he, hs, hl⟩)
    · exact ⟨hs, .inl ⟨ho, hl⟩⟩
    · exact ⟨hs, .inr ⟨e, he, hl⟩⟩
  · rintro ⟨hs, ⟨ho, hl⟩ | ⟨e, he, hl⟩⟩
    · exact .inl ⟨ho, hs, hl⟩
    · exact .inr ⟨e, he, hs, hl⟩

/-- A record at which PURGE stops (R105). -/
def State.purgeKeeps (s : State) (q : Nat) (r : Record) : Prop :=
  q < r.seq ∨ r.state = .active ∨ s.inProtectedLoop r = true

theorem State.purgeStop_eq_none {s : State} {q : Nat} {r : Record} (h : s.purgeStop q r = none) : ¬s.purgeKeeps q r := by
  unfold State.purgeStop at h
  split_ifs at h with h1 h2 h3
  exact not_or.2 ⟨h1, not_or.2 ⟨h2, h3⟩⟩

theorem State.purgeStop_eq_some {s : State} {q : Nat} {r : Record} {why : StopReason} (h : s.purgeStop q r = some why) :
    s.purgeKeeps q r ∧ why = if q < r.seq then .limit else if r.state = .active then .active else .loop := by
  unfold State.purgeStop at h
  split_ifs at h with h1 h2 h3 <;> cases h
  · exact ⟨.inl h1, (if_pos h1).symm⟩
  · exact ⟨.inr (.inl h2), by rw [if_neg h1, if_pos h2]⟩
  · exact ⟨.inr (.inr h3), by rw [if_neg h1, if_neg h2]⟩

/-- The scan splits the list at the first record at which it stops. -/
theorem State.purgeScan_spec (s : State) (q : Nat) (rs : List Record) :
    ∃ removed rest reason, s.purgeScan q rs = (rest, reason) ∧ rs = removed ++ rest ∧ (∀ r ∈ removed, ¬s.purgeKeeps q r) ∧
      (rest = [] ∧ reason = .limit ∨
        ∃ r tail, rest = r :: tail ∧ s.purgeStop q r = some reason) := by
  induction rs with
  | nil => exact ⟨[], [], .limit, rfl, rfl, fun _ h => absurd h List.not_mem_nil, .inl ⟨rfl, rfl⟩⟩
  | cons r rest ih =>
    cases hstop : s.purgeStop q r with
    | some why =>
      refine ⟨[], r :: rest, why, ?_, rfl, fun _ h => absurd h List.not_mem_nil, .inr ⟨r, rest, rfl, hstop⟩⟩
      simp only [State.purgeScan, hstop]
    | none =>
      obtain ⟨removed, tail, reason, hscan, hsplit, hremoved, hend⟩ := ih
      refine ⟨r :: removed, tail, reason, ?_, by rw [hsplit, List.cons_append], ?_, hend⟩
      · simp only [State.purgeScan, hstop, hscan]
      · exact List.forall_mem_cons.2 ⟨State.purgeStop_eq_none hstop, hremoved⟩

/-- Settles O33: the scan's split is the one asked for. -/
theorem purgeRemovesFromTheOldest : Obligations.PurgeRemovesFromTheOldest := by
  intro s q hready open_ kept
  have hkept (r : Record) : s.purgeKeeps q.toNat r ↔ kept r :=
    or_congr_right (or_congr_right (s.inProtectedLoop_iff r))
  obtain ⟨removed, rest, reason, hscan, hsplit, hremoved, hend⟩ := s.purgeScan_spec q.toNat s.log.records
  have hlen : s.log.records.length - rest.length = removed.length := by rw [hsplit, List.length_append]; omega
  have hop : opPurge .survey q s =
      accept (s.setLog { s.log with records := rest }) (.purged removed.length (oldestSeq rest) reason) := by
    simp only [opPurge, hscan, hlen]
  refine ⟨removed, rest, reason, hsplit, fun r hr => (hkept r).not.1 (hremoved r hr), ?_, ?_⟩
  · obtain ⟨rfl, hreason⟩ | ⟨r, tail, rfl, hstop⟩ := hend
    · exact hreason
    · obtain ⟨hkeeps, hreason⟩ := State.purgeStop_eq_some hstop
      exact ⟨(hkept r).1 hkeeps, hreason⟩
  · refine exec_ready_served (by rfl) (by decide) hready (hop.trans ?_)
    cases rest <;> rfl

/-! ## The base table's requests -/

theorem findBase_cons (e : BaseEntry) (rest : List BaseEntry) (i : Nat) :
    findBase (e :: rest) i = if e.id = i then some e else findBase rest i := by
  rw [findBase, List.find?_cons, findBase]
  by_cases h : e.id = i
  · rw [beq_iff_eq.2 h, if_pos h]
  · rw [beq_eq_false_iff_ne.2 h, if_neg h]

theorem findBase_insertBase_eq_some (id : Nat) (v : Int) (b : List BaseEntry) :
    findBase (insertBase id v b) id = some { id := id, value := v } := by
  induction b with
  | nil => rw [insertBase, findBase_cons, if_pos rfl]
  | cons e rest ih =>
    rw [insertBase]
    split_ifs with hlt heq
    · rw [findBase_cons, if_pos rfl]
    · rw [findBase_cons, if_pos rfl]
    · rw [findBase_cons, if_neg (Ne.symm heq), ih]

theorem findBase_removeBase_self (id : Nat) (b : List BaseEntry) : findBase (removeBase id b) id = none := by
  rw [findBase, List.find?_eq_none]
  intro e he
  simpa using List.of_mem_filter he

section
variable {s : State} {id v : U32}

theorem opLoadBase_listed (hs : s.survey.state ≠ .unset) (hok : (stationOk id.toNat && adoptedOk v.toInt) = true)
    (hlisted : (findBase s.bases id.toNat).isSome = true) :
    opLoadBase .survey id v s =
      if s.baseInUse id.toNat then refuse s .inUse
      else accept (s.setBases (insertBase id.toNat v.toInt s.bases)) (.baseCount s.bases.length) := by
  simp only [opLoadBase, if_neg hs, hok, Bool.not_true, Bool.false_eq_true, if_false, if_pos hlisted]

theorem opLoadBase_new (hs : s.survey.state ≠ .unset) (hok : (stationOk id.toNat && adoptedOk v.toInt) = true)
    (hnew : ¬(findBase s.bases id.toNat).isSome = true) :
    opLoadBase .survey id v s =
      if 24 ≤ s.bases.length then refuse s .tableFull
      else accept (s.setBases (insertBase id.toNat v.toInt s.bases)) (.baseCount (s.bases.length + 1)) := by
  simp only [opLoadBase, if_neg hs, hok, Bool.not_true, Bool.false_eq_true, if_false, if_neg hnew]

theorem opDropBase_listed (hs : s.survey.state ≠ .unset) (hok : stationOk id.toNat = true)
    (hlisted : (findBase s.bases id.toNat).isSome = true) :
    opDropBase .survey id s =
      if s.baseInUse id.toNat then refuse s .inUse
      else accept (s.setBases (removeBase id.toNat s.bases)) (.baseCount (removeBase id.toNat s.bases).length) := by
  have hnotNone : ¬(findBase s.bases id.toNat).isNone = true := by rw [← Option.not_isSome, hlisted]; decide
  simp only [opDropBase, if_neg hs, hok, Bool.not_true, Bool.false_eq_true, if_false, if_neg hnotNone]

theorem loadRange_iff : (stationOk id.toNat && adoptedOk v.toInt) = true ↔
    (1 ≤ id.toNat ∧ id.toNat ≤ 999999) ∧ v.toInt.natAbs ≤ 200000000 := by
  rw [Bool.and_eq_true, stationOk_iff, adoptedOk_iff]
  omega

/-- An accepted LOAD BASE: the id's value stands in the table, and every other entry as before (R109). -/
theorem loadBase_changes (hord : BasesOrdered s.bases) (hs : s.survey.state ≠ .unset) (hid : 1 ≤ id.toNat ∧ id.toNat ≤ 999999)
    (hready : s.portReady .survey 8 = true) (hv : v.toInt.natAbs ≤ 200000000)
    (hroom : findBase s.bases id.toNat = none ∧ s.bases.length < 24 ∨
      (findBase s.bases id.toNat).isSome = true ∧ ¬((∃ r ∈ s.log.records, r.role ≠ .none ∧ r.station = id.toNat) ∨
        ∃ r, s.activeRecord = some r ∧ r.kind = .base ∧ r.station = id.toNat)) :
    ∃ b, findBase b id.toNat = some { id := id.toNat, value := v.toInt } ∧
      (∀ i, i ≠ id.toNat → findBase b i = findBase s.bases i) ∧
      b.length = (if findBase s.bases id.toNat = none then s.bases.length + 1 else s.bases.length) ∧
      exec (.loadBase .survey id v) s =
        .next (({ s with bases := b } : State).replied .survey .loadBase (okAnswer (.baseCount b.length))) := by
  have hok := loadRange_iff.2 ⟨hid, hv⟩
  have hlen := hord.length_insertBase id.toNat v.toInt
  refine ⟨insertBase id.toNat v.toInt s.bases, findBase_insertBase_eq_some .., findBase_insertBase_ne _ _ _, ?_, ?_⟩
  · rw [hlen]
    cases findBase s.bases id.toNat <;> rfl
  · refine exec_ready_served (by rfl) (by decide) hready (?_ : opLoadBase .survey id v s = _)
    rw [hlen]
    obtain ⟨hnone, hfew⟩ | ⟨hsome, hfree⟩ := hroom
    · have hnew : ¬(findBase s.bases id.toNat).isSome = true := by rw [hnone]; decide
      rw [if_neg hnew]
      exact (opLoadBase_new hs hok hnew).trans (if_neg (not_le.2 hfew))
    · rw [if_pos hsome]
      exact (opLoadBase_listed hs hok hsome).trans (if_neg ((s.baseInUse_iff _).not.2 hfree))

/-- An accepted DROP BASE (R110). -/
theorem dropBase_changes (hs : s.survey.state ≠ .unset) (hid : 1 ≤ id.toNat ∧ id.toNat ≤ 999999)
    (hready : s.portReady .survey 4 = true) (hlisted : (findBase s.bases id.toNat).isSome = true)
    (hfree : ¬((∃ r ∈ s.log.records, r.role ≠ .none ∧ r.station = id.toNat) ∨
      ∃ r, s.activeRecord = some r ∧ r.kind = .base ∧ r.station = id.toNat)) :
    ∃ b, findBase b id.toNat = none ∧ (∀ i, i ≠ id.toNat → findBase b i = findBase s.bases i) ∧
      exec (.dropBase .survey id) s =
        .next (({ s with bases := b } : State).replied .survey .dropBase (okAnswer (.baseCount b.length))) :=
  ⟨removeBase id.toNat s.bases, findBase_removeBase_self .., findBase_removeBase_ne _ _,
    exec_ready_served (by rfl) (by decide) hready
      ((opDropBase_listed hs ((stationOk_iff _).2 hid) hlisted).trans (if_neg ((s.baseInUse_iff _).not.2 hfree)))⟩

end

/-- Settles O34: a lookup after the table's change, and each refusal by the first check that fails. -/
theorem baseTableRequests : Obligations.BaseTableRequests := by
  refine ⟨fun s id v hord hs hid1 hid2 => ?_, fun s id v => ?_⟩
  · intro look used
    exact ⟨fun hready hv hroom => loadBase_changes hord hs ⟨hid1, hid2⟩ hready hv hroom,
      fun hready hlisted hfree => dropBase_changes hs ⟨hid1, hid2⟩ hready hlisted hfree⟩
  · intro used listed idOk load drop
    refine ⟨fun hready => ?_, fun hready => ?_⟩
    · have hserved {st : Status} (h : opLoadBase .survey id v s = refuse s st) : load st :=
        exec_ready_served (by rfl) (by decide) hready h
      refine ⟨fun hs => hserved (if_pos hs), fun hs hrange => hserved ?_, fun hs hid hv hlisted hused => hserved ?_,
        fun hs hid hv hlisted hfull => hserved ?_⟩
      · have hbad : (stationOk id.toNat && adoptedOk v.toInt) = false := Bool.eq_false_iff.2 (hrange ∘ loadRange_iff.1)
        rw [opLoadBase, if_neg hs, if_pos (by rw [hbad]; rfl)]
      · rw [opLoadBase_listed hs (loadRange_iff.2 ⟨hid, hv⟩) (by rw [findBase_isSome]; exact hlisted),
          if_pos ((s.baseInUse_iff _).2 hused)]
      · rw [opLoadBase_new hs (loadRange_iff.2 ⟨hid, hv⟩) (by rw [findBase_isSome]; exact hlisted), if_pos hfull]
    · have hserved {st : Status} (h : opDropBase .survey id s = refuse s st) : drop st :=
        exec_ready_served (by rfl) (by decide) hready h
      refine ⟨fun hs => hserved (if_pos hs), fun hs hrange => hserved ?_, fun hs hid hlisted => hserved ?_,
        fun hs hid hlisted hused => hserved ?_⟩
      · have hbad : stationOk id.toNat = false := Bool.eq_false_iff.2 (hrange ∘ (stationOk_iff _).1)
        rw [opDropBase, if_neg hs, if_pos (by rw [hbad]; rfl)]
      · have hok := (stationOk_iff _).2 hid
        rw [opDropBase, if_neg hs, if_neg (by rw [hok]; decide), if_pos]
        rw [findBase_isNone, Bool.not_eq_true']
        exact Bool.eq_false_iff.2 hlisted
      · rw [opDropBase_listed hs ((stationOk_iff _).2 hid) (by rw [findBase_isSome]; exact hlisted),
          if_pos ((s.baseInUse_iff _).2 hused)]

/-! ## The closure step -/

theorem exec_closureStep_idle {s : State} (h : s.startUp ≠ none ∨ s.queue = [] ∨ s.closurePos = none) :
    exec .closureStep s = .next s := by
  refine congrArg Host.Outcome.next ?_
  split_ifs with hlive
  · have hnone : s.startUp = none := by
      rw [Bool.and_eq_true, State.inStartUp] at hlive
      simpa using hlive.2
    obtain hq | hc := h.resolve_left (not_not.2 hnone)
    · rw [State.closureStep, hq]
    · rw [State.closureStep, hc]
      cases s.queue <;> rfl
  · rfl

theorem exec_closureStep {s : State} (h : s.mainLive = true) (hu : s.startUp = none) :
    exec .closureStep s = .next s.closureStep :=
  congrArg _ (if_pos (by rw [h, State.inStartUp, hu]; rfl))

/-- Settles O35: the two cases of a step with a closure in flight, and the three in which nothing happens. -/
theorem closureStepReducesOneRecord : Obligations.ClosureStepReducesOneRecord := by
  refine fun s => ⟨fun hu => exec_closureStep_idle (.inl hu), fun hlive hu => ⟨fun h => exec_closureStep_idle (.inr h), ?_⟩⟩
  intro e rest pos hq hpos
  rw [exec_closureStep hlive hu, State.closureStep, hq, hpos]
  refine ⟨fun hle => ?_, fun hlt => ?_⟩
  · refine congrArg _ ((if_pos hle).trans ?_)
    rw [State.closureDone, hq]
    rfl
  · intro k drift reduced
    refine congrArg _ ((if_neg (not_le.2 hlt)).trans ?_)
    have hclose : closeRecord e s.store.work.loop = reduced := funext fun r => by
      cases hres : r.result with
      | none => simp only [closeRecord, reduced, hres]
      | some res =>
        simp only [closeRecord, reduced, hres]
        rfl
    rw [hclose, ← hq]
    rfl

end Sys2Proof.Machine

/-! SUPPORT. The survey controller's requests (sections 6.7, 7.3 and 7.4), and the survey lock on the constants (section 8.2). -/

namespace Sys2Proof.Machine

theorem stepOk_iff (x : Int) : stepOk x = true ↔ -99 ≤ x ∧ x ≤ 99 ∧ x ≠ 0 := by simp [stepOk, and_assoc]

theorem State.inSurvey_eq_false_iff (s : State) : s.inSurvey = false ↔ ¬(s.survey.state = .survey ∨ s.survey.state = .held) := by
  rw [Bool.eq_false_iff, ne_eq, s.inSurvey_iff]

/-! ## OPEN SURVEY and RESUME -/

/-- The ranges OPEN SURVEY checks (R132). -/
theorem openRange_iff (n : U16) (id : U32) (step : Byte) :
    (surveyNumberOk n.toNat && stationOk id.toNat && stepOk step.toInt) = true ↔
      1 ≤ n.toNat ∧ 1 ≤ id.toNat ∧ id.toNat ≤ 999999 ∧ -99 ≤ step.toInt ∧ step.toInt ≤ 99 ∧ step.toInt ≠ 0 := by
  have hn : n.toNat ≤ 65535 := Nat.le_of_lt_succ n.isLt
  simp only [Bool.and_eq_true, stationOk_iff, stepOk_iff, surveyNumberOk, decide_eq_true_eq, hn, and_true, and_assoc]

theorem opOpenSurvey_ranged {s : State} {n : U16} {id : U32} {step : Byte} (h : s.survey.state = .ready)
    (hok : (surveyNumberOk n.toNat && stationOk id.toNat && stepOk step.toInt) = true) :
    opOpenSurvey .survey n id step s =
      if s.store.state = .committing ∨ s.store.computing = true then refuse s .busy
      else if s.store.state ≠ .clean then refuse s .state
      else accept ((s.openLoops.setSurvey { s.survey with
        state := .survey, number := n.toNat, nextId := some id.toNat, step := step.toInt }).raise .surveyChanged) .empty := by
  rw [opOpenSurvey, if_neg (not_not.2 h), if_neg (by rw [hok]; decide)]

/-- Settles O36: the checks of both requests, one after another. -/
theorem openAndResume : Obligations.OpenAndResume := by
  intro s p n id step inRange dirty defaulted opens resumes
  have hclean : s.store.state = .clean ↔ s.store.commit = none ∧ ¬dirty := by
    rw [Store.state_eq_clean_iff]
    simp only [dirty, not_exists, Bool.not_eq_true]
  refine ⟨fun hready => ?_, fun hready => ?_⟩
  · have hserved {st : Status} (h : opOpenSurvey .survey n id step s = refuse s st) : opens st :=
      exec_ready_served (by rfl) (by decide) hready h
    have hnotBusy (hc : s.store.commit = none) (hd : s.store.computing = false) :
        ¬(s.store.state = .committing ∨ s.store.computing = true) := by
      rw [Store.state_eq_committing_iff, hc, hd]
      decide
    refine ⟨fun hs => hserved (if_pos hs), fun hs hrange => hserved ?_, fun hs hrange hbusy => hserved ?_,
      fun hs hrange hc hd hdirty => hserved ?_, fun hs hrange hc hd hdirty => ?_⟩
    · rw [opOpenSurvey, if_neg (not_not.2 hs), if_pos]
      rw [Bool.not_eq_true']
      exact Bool.eq_false_iff.2 (hrange ∘ (openRange_iff ..).1)
    · rw [opOpenSurvey_ranged hs ((openRange_iff ..).2 hrange), if_pos]
      rw [Store.state_eq_committing_iff]
      exact hbusy
    · rw [opOpenSurvey_ranged hs ((openRange_iff ..).2 hrange), if_neg (hnotBusy hc hd), if_pos]
      exact fun h => (hclean.1 h).2 hdirty
    · refine exec_ready_served (by rfl) (by decide) hready ((opOpenSurvey_ranged hs ((openRange_iff ..).2 hrange)).trans ?_)
      rw [if_neg (hnotBusy hc hd), if_neg (not_not.2 (hclean.2 ⟨hc, hdirty⟩))]
      rfl
  · have hserved {st : Status} (h : opResume s = refuse s st) : resumes st := exec_ready_served (by rfl) (by decide) hready h
    have hnone (h : ¬defaulted) : s.noneDefaulted = true := by
      rw [← Bool.not_eq_false, State.noneDefaulted_eq_false_iff]
      exact h
    refine ⟨fun h => hserved ?_, fun hs hdef hbusy => hserved ?_, fun hs hdef hidle => ?_⟩
    · rw [opResume]
      split_ifs with hs hd
      · rfl
      · rfl
      · exact absurd ((s.noneDefaulted_eq_false_iff.2 (h.resolve_left hs))) (by simpa using hd)
      · exact absurd ((s.noneDefaulted_eq_false_iff.2 (h.resolve_left hs))) (by simpa using hd)
    · rw [opResume, if_neg (not_not.2 hs), if_neg (by rw [hnone hdef]; decide), if_pos hbusy]
    · refine exec_ready_served (by rfl) (by decide) hready (?_ : opResume s = _)
      rw [opResume, if_neg (not_not.2 hs), if_neg (by rw [hnone hdef]; decide), if_neg (by rw [hidle]; decide)]
      rfl

/-! ## CLOSE SURVEY -/

theorem State.closeLoops_eq (s : State) :
    s.closeLoops =
      { s with
        log := { s.log with records := s.log.records.map fun r =>
          match s.loop.opening with
          | some a => uncloseRecord a r
          | none => r }
        loop := { s.loop with opening := none, prediction := none } } := by
  rw [State.closeLoops]
  cases h : s.loop.opening with
  | none => simp [State.setLoop]
  | some a => rfl

/-- Settles O37: the checks one after another; an accepted one closes the loops and the survey. -/
theorem closeSurveyEndsTheLoop : Obligations.CloseSurveyEndsTheLoop := by
  intro s hready open_ refused unclose
  have hserved {st : Status} (h : opCloseSurvey .survey s = refuse s st) : refused st :=
    exec_ready_served (by rfl) (by decide) hready h
  have hin (h : open_) : ¬(!s.inSurvey) = true := by rw [s.inSurvey_iff.2 h]; decide
  have hidle (h : s.occ.state = .none) : ¬s.occ.isActive = true := by rw [s.occ.isActive_eq_false_iff.2 h]; decide
  refine ⟨fun hs => hserved (if_pos ?_), fun hs hact => hserved ?_, fun hs hocc hq => hserved ?_,
    fun hs hocc hq state hstate => ?_⟩
  · rw [s.inSurvey_eq_false_iff.2 hs]
    rfl
  · rw [opCloseSurvey, if_neg (hin hs), if_pos (Occupation.isActive_of_ne hact)]
  · rw [opCloseSurvey, if_neg (hin hs), if_neg (hidle hocc), if_pos (by simpa using hq)]
  · have hclosed : s.closedState = state := by
      rw [State.closedState]
      obtain ⟨rfl, hnone⟩ | ⟨rfl, hsome⟩ := hstate
      · exact if_pos (s.noneDefaulted_iff.2 hnone)
      · exact if_neg (by rw [s.noneDefaulted_eq_false_iff.2 hsome]; decide)
    refine exec_ready_served (by rfl) (by decide) hready (?_ : opCloseSurvey .survey s = _)
    rw [opCloseSurvey, if_neg (hin hs), if_neg (hidle hocc), if_neg (by rw [hq]; decide), hclosed, State.closeLoops_eq]
    rfl

/-! ## SET LINE and SET POSITION -/

/-- Settles O38: the checks of both requests. -/
theorem setLineAndPosition : Obligations.SetLineAndPosition := by
  intro s id lat lon step ind open_ lineOk posOk
  have hline : (stationOk id.toNat && stepOk step.toInt) = true ↔ lineOk := by
    simp only [Bool.and_eq_true, stationOk_iff, stepOk_iff, lineOk, and_assoc]
  have hpos : (positionOf lat lon).ok = true ↔ posOk := Position.ok_iff _
  have hin (h : open_) : ¬(!s.inSurvey) = true := by rw [s.inSurvey_iff.2 h]; decide
  refine ⟨fun hready => ⟨fun hs => ?_, fun hs hbad => ?_, fun hs hok => ?_⟩,
    fun hready => ⟨fun h0 => ?_, fun h1 hok => ?_, fun h0 hbad => ?_⟩⟩
  · refine exec_ready_served (by rfl) (by decide) hready (if_pos ?_ : opSetLine .survey id step s = refuse s .state)
    rw [s.inSurvey_eq_false_iff.2 hs]
    rfl
  · refine exec_ready_served (by rfl) (by decide) hready (?_ : opSetLine .survey id step s = refuse s .range)
    rw [opSetLine, if_neg (hin hs), if_pos]
    rw [Bool.not_eq_true']
    exact Bool.eq_false_iff.2 (hbad ∘ hline.1)
  · refine exec_ready_served (by rfl) (by decide) hready (?_ : opSetLine .survey id step s = _)
    rw [opSetLine, if_neg (hin hs), if_neg (by rw [hline.2 hok]; decide)]
    rfl
  · exact exec_ready_served (by rfl) (by decide) hready (if_pos h0)
  · have h0 : ind ≠ 0 := by rw [h1]; decide
    exact exec_ready_served (by rfl) (by decide) hready ((if_neg h0).trans (if_pos ⟨h1, hpos.2 hok⟩))
  · exact exec_ready_served (by rfl) (by decide) hready
      ((if_neg h0).trans (if_neg fun h => hbad ⟨h.1, hpos.1 h.2⟩) : opSetPosition .survey ind lat lon s = refuse s .range)

/-! ## The survey lock (R148) -/

theorem State.beginRestart_soft_store (s : State) :
    (s.beginRestart .soft).store.work = s.store.work ∧ (s.beginRestart .soft).nv = s.nv := ⟨rfl, rfl⟩

/-- In an open survey, and for STATUS at any time, an operation leaves the working copy and the images. -/
theorem operationOf_locked {s : State} {i : Instr} {p : Port} {r : Req} (hi : i.request = some (p, r))
    (h : s.inSurvey = true ∨ i.alwaysTaken = true) :
    (operationOf i s).1.store.work = s.store.work ∧ (operationOf i s).1.nv = s.nv := by
  by_cases hsoft : r = .softReset
  · subst hsoft
    obtain rfl := eq_softReset_of_request hi
    exact s.beginRestart_soft_store
  obtain hin | hstatus := h
  · obtain ⟨hstore, hnv⟩ := operationOf_store_of_inSurvey hi hsoft hin
    exact ⟨by rw [hstore], hnv⟩
  · cases i <;> simp only [Instr.alwaysTaken, Bool.false_eq_true] at hstatus
    exact ⟨rfl, rfl⟩

/-- `s` has the working copy and the images of `s0`, and no further frame on the survey port can change them: a survey is open, start-up
is in progress, or a request is outstanding. -/
def State.LockedAs (s0 s : State) : Prop :=
  s.store.work = s0.store.work ∧ s.nv = s0.nv ∧ (s.inSurvey = true ∨ s.startUp ≠ none ∨ s.uart.out.isSome = true)

/-- An operation on the survey port leaves the survey open, begins a restart, or answers. -/
theorem operationOf_stays_locked {s : State} {i : Instr} {r : Req} (hi : i.request = some (.survey, r)) (hin : s.inSurvey = true) :
    (operationOf i s).1.inSurvey = true ∨ (operationOf i s).1.startUp ≠ none ∨ (operationOf i s).2.isSome = true := by
  by_cases hsoft : r = .softReset
  · subst hsoft
    obtain rfl := eq_softReset_of_request hi
    exact .inr (.inl (Option.some_ne_none _))
  by_cases hclose : r = .closeSurvey
  · subst hclose
    obtain rfl := eq_closeSurvey_of_request hi
    refine .inr (.inr ?_)
    rw [operationOf, opCloseSurvey]
    split_ifs <;> rfl
  exact .inl (operationOf_inSurvey hi hsoft hclose hin)

theorem State.LockedAs.take {s0 s : State} (h : s0.LockedAs s) {i : Instr} {r : Req} (hi : i.request = some (.survey, r)) (n : Nat) :
    s0.LockedAs (s.take .survey r n i.alwaysTaken (operationOf i)) := by
  obtain ⟨hwork, hnv, hopen⟩ := h
  rw [State.take]
  split_ifs
  · simp only [State.takeSurvey]
    split_ifs with hout hbusy
    · exact ⟨hwork, hnv, .inr (.inr hout)⟩
    · exact ⟨hwork, hnv, .inr (.inr rfl)⟩
    · have hin : s.inSurvey = true ∨ i.alwaysTaken = true := by
        obtain hin | hstart | hsome := hopen
        · exact .inl hin
        · have hup : s.inStartUp = true := Option.isSome_iff_ne_none.2 hstart
          simp only [hup, Bool.true_and, Bool.not_eq_true', Bool.not_eq_false] at hbusy
          exact .inr hbusy
        · exact absurd hsome hout
      obtain ⟨hwork', hnv'⟩ := operationOf_locked (s := s.setUart s.uart.hunting) hi hin
      have hstay (h : s.inSurvey = true) := operationOf_stays_locked (s := s.setUart s.uart.hunting) hi h
      have hstatus (h : i.alwaysTaken = true) : (operationOf i (s.setUart s.uart.hunting)).2.isSome = true := by
        cases i <;> simp only [Instr.alwaysTaken, Bool.false_eq_true] at h
        rfl
      have hkept := hin.elim hstay fun h => .inr (.inr (hstatus h))
      generalize operationOf i (s.setUart s.uart.hunting) = served at *
      obtain ⟨t, _ | a⟩ := served
      · refine ⟨hwork'.trans hwork, hnv'.trans hnv, ?_⟩
        exact hkept.imp_right fun h => .inl (h.resolve_right Bool.false_ne_true)
      · exact ⟨hwork'.trans hwork, hnv'.trans hnv, .inr (.inr rfl)⟩
  · exact ⟨hwork, hnv, hopen⟩

theorem State.LockedAs.serve {s0 s : State} (h : s0.LockedAs s) {i : Instr} {r : Req} (hi : i.request = some (.survey, r)) :
    s0.LockedAs (s.serve i) := by
  rw [State.serve_eq s hi]
  exact h.take hi _

/-- A change of the receiver alone. -/
theorem State.LockedAs.setUart {s0 s : State} (h : s0.LockedAs s) {u : SurveyPort} (hu : u.out = s.uart.out) :
    s0.LockedAs (s.setUart u) := by
  obtain ⟨hwork, hnv, hopen⟩ := h
  exact ⟨hwork, hnv, hopen.imp_right (Or.imp_right fun h => by rw [State.setUart_uart, hu]; exact h)⟩

/-- The port's own answer is outstanding. -/
theorem State.LockedAs.rejectSurvey {s0 s : State} (h : s0.LockedAs s) (f : FrameFault) (buf : List Byte) :
    s0.LockedAs (s.rejectSurvey f buf) := by
  obtain ⟨hwork, hnv, -⟩ := h
  exact ⟨hwork, hnv, .inr (.inr rfl)⟩

theorem judgeRequest_request {p : Port} {code : Byte} {pl : List Byte} {i : Instr} (h : judgeRequest p code pl = .good i) :
    ∃ r, i.request = some (p, r) := by
  unfold judgeRequest at h
  split at h
  · cases h
  · next r _ =>
    split at h
    · cases h
    · next j hj =>
      cases h
      exact ⟨r, decodePayload_request hj⟩

theorem judgeSurvey_request {buf : List Byte} {i : Instr} (h : judgeSurvey buf = .good i) : ∃ r, i.request = some (.survey, r) := by
  unfold judgeSurvey at h
  split at h
  · cases h
  · split at h
    · exact judgeRequest_request h
    · cases h

theorem judgeMeter_request {bytes : List Byte} {i : Instr} (h : judgeMeter bytes = .good i) : ∃ r, i.request = some (.meter, r) := by
  match bytes with
  | [] => cases h
  | [c] =>
    unfold judgeMeter at h
    dsimp only at h
    split_ifs at h
  | c :: l :: body =>
    unfold judgeMeter at h
    dsimp only at h
    split_ifs at h
    exact judgeRequest_request h

theorem State.LockedAs.receiveByte {s0 s : State} (h : s0.LockedAs s) (b : Byte) : s0.LockedAs (s.receiveByte b) := by
  have hjudge (buf : List Byte) : s0.LockedAs (s.judgeFrame buf) := by
    unfold State.judgeFrame
    split
    · exact h.rejectSurvey ..
    · next i hgood =>
      obtain ⟨r, hr⟩ := judgeSurvey_request hgood
      exact h.serve hr
    · exact h.setUart rfl
  unfold State.receiveByte
  dsimp only
  split
  · split_ifs
    · exact h
    · exact h.setUart rfl
    · exact h.setUart rfl
  · split_ifs
    · exact h.rejectSurvey ..
    · exact hjudge _
    · exact h.setUart rfl
  · split_ifs
    · exact h.setUart rfl
    · exact h.setUart rfl
    · exact h.setUart rfl

theorem State.LockedAs.receiveBytes {s0 s : State} (h : s0.LockedAs s) (bytes : List Byte) : s0.LockedAs (s.receiveBytes bytes) := by
  induction bytes generalizing s with
  | nil => exact h
  | cons b rest ih =>
    rw [State.receiveBytes_cons]
    refine ih ?_
    change s0.LockedAs (if s.receiving then s.receiveByte b else s)
    split_ifs
    · exact h.receiveByte b
    · exact h

/-- A request served in an open survey, on either port. -/
theorem State.serve_locked {s : State} (h : s.inSurvey = true) {i : Instr} {p : Port} {r : Req} (hi : i.request = some (p, r)) :
    (s.serve i).store.work = s.store.work ∧ (s.serve i).nv = s.nv := by
  rw [State.serve_eq s hi]
  obtain hport | ⟨-, -, s1, h1, h2⟩ := State.take_spec s p r (encodePayload i).length i.alwaysTaken (operationOf i)
  · obtain ⟨_, _, _, _, _, _, _, _, ht⟩ := hport
    rw [ht]
    exact ⟨rfl, rfl⟩
  · obtain ⟨_, _, _, _, _, _, _, _, hs1⟩ := h1
    obtain ⟨_, _, _, _, _, _, _, _, ht⟩ := h2
    have hsame : s1.inSurvey = s.inSurvey ∧ s1.store = s.store ∧ s1.nv = s.nv := by rw [hs1]; exact ⟨rfl, rfl, rfl⟩
    obtain ⟨hin, hstore, hnv1⟩ := hsame
    obtain ⟨hwork, hnv⟩ := operationOf_locked hi (.inl (hin.trans h))
    rw [ht]
    exact ⟨hwork.trans (congrArg _ hstore), hnv.trans hnv1⟩

theorem State.examine_locked {s : State} (h : s.inSurvey = true) (bytes : List Byte) :
    (s.examine bytes).store.work = s.store.work ∧ (s.examine bytes).nv = s.nv := by
  obtain ⟨_, _, _, _, _, _, _, _, hopened⟩ := State.PortOnly.openTxn s bytes.length
  have hin : (s.openTxn bytes.length).inSurvey = true := by rw [hopened]; exact h
  have hsame : (s.openTxn bytes.length).store.work = s.store.work ∧ (s.openTxn bytes.length).nv = s.nv := by
    rw [hopened]; exact ⟨rfl, rfl⟩
  unfold State.examine
  dsimp only
  split
  · exact hsame
  · split_ifs
    · exact hsame
    · split
      · exact hsame
      · exact hsame
      · next i hgood =>
        obtain ⟨r, hr⟩ := judgeMeter_request hgood
        obtain ⟨hwork, hnv⟩ := State.serve_locked hin hr
        exact ⟨hwork.trans hsame.1, hnv.trans hsame.2⟩

/-- Settles O39: a request on the meter port is one operation on an open survey; the bytes of the survey port keep the lock one by
one. -/
theorem surveyLocksTheConstants : Obligations.SurveyLocksTheConstants := by
  intro s t c hs hc hexec
  have hin := s.inSurvey_iff.2 hs
  have hlocked : s.LockedAs s := ⟨rfl, rfl, .inl hin⟩
  have hbytes (bytes : List Byte) : (s.receiveBytes bytes).store.work = s.store.work ∧ (s.receiveBytes bytes).nv = s.nv := by
    obtain ⟨hwork, hnv, -⟩ := hlocked.receiveBytes bytes
    exact ⟨hwork, hnv⟩
  have hports {u : State} (hu : s.PortOnly u) : u.store.work = s.store.work ∧ u.nv = s.nv := by
    obtain ⟨_, _, _, _, _, _, _, _, rfl⟩ := hu
    exact ⟨rfl, rfl⟩
  cases hreq : c.request with
  | some x =>
    obtain ⟨p, r⟩ := x
    rw [exec_arrive s hreq] at hexec
    cases hexec
    by_cases hp : p = .meter ∨ s.uart.rx = .hunt
    · rw [State.arrive_serve hreq hp]
      exact State.serve_locked hin hreq
    · obtain ⟨hmeter, hrx⟩ := not_or.1 hp
      cases p with
      | meter => exact absurd rfl hmeter
      | survey =>
        rw [State.arrive_bytes hreq hrx]
        exact hbytes _
  | none =>
    have hframe : c.isFrame = true := hc.resolve_left (by rw [hreq]; decide)
    have hkept {guard : Bool} {u : State} (hu : u.store.work = s.store.work ∧ u.nv = s.nv) :
        (if guard then u else s).store.work = s.store.work ∧ (if guard then u else s).nv = s.nv := by
      cases guard
      · exact ⟨rfl, rfl⟩
      · exact hu
    cases c <;> simp only [Instr.isFrame, Bool.false_eq_true] at hframe <;> cases hexec
    case none.meterFrameReject.refl bytes => exact hkept (State.examine_locked hin bytes)
    case none.meterFrameDiscard.refl => exact hkept (hports (.csRise s))
    case none.csnFall.refl n => exact hkept (hports (.csFall s n))
    case none.surveyFrameReject.refl bytes => exact hbytes bytes
    case none.surveyFrameOverrun.refl bytes => exact hkept (hbytes bytes)
    case none.interByteTimeout.refl => exact hkept (hports (.timeOut s))

end Sys2Proof.Machine

/-! SUPPORT. WRITE ITEM (section 8.2): its checks in order, item by item, and what the item written reads back as. -/

namespace Sys2Proof.Machine

/-! ## Blocks that do not exist (R161, R163) -/

theorem itemLength_of_no_block {b : Byte} (h : ¬(1 ≤ b.toNat ∧ b.toNat ≤ 5)) (i : Byte) : itemLength b i = none := by
  unfold itemLength
  split
  iterate 5 exact absurd (by omega) h
  rfl

theorem decodePayload_absentBlock {b : Byte} (h : ¬(1 ≤ b.toNat ∧ b.toNat ≤ 5)) (p : Port) :
    decodePayload p .writeItem [b] = some (.writeItem p (.absentBlock b)) := by
  have hnot : ¬blockExists b = true := by rwa [blockExists, decide_eq_true_eq]
  exact if_neg hnot

theorem decodePayload_absent {b i : Byte} (h : itemLength b i = none) (p : Port) (img : List Byte) :
    decodePayload p .writeItem (b :: i :: img) = some (.writeItem p (.absent b i)) := by
  have hitem : decodeItem b i img = some (.absent b i) := if_pos (by rw [h]; rfl)
  change (decodeItem b i img).map (Instr.writeItem p) = _
  rw [hitem, Option.map_some]

/-! ## The checks in order (R148) -/

/-- The checks that a WRITE ITEM of an existing block passes or fails: its port, no survey open, no commit, its ranges `ok`; an
accepted one leaves `work` as the working copy and its block dirty. -/
def WriteDecided (s : State) (p : Port) (w : ItemWrite) (b : Block) (ok : Prop) (work : Constants) : Prop :=
  let refused := fun st => exec (.writeItem p w) s = .next (s.replied p .writeItem (refusal st))
  let open_ := s.survey.state = .survey ∨ s.survey.state = .held
  let mine := p = writablePort b
  (¬mine → refused .denied) ∧
  (mine → open_ → refused .state) ∧
  (mine → ¬open_ → s.store.commit.isSome = true → refused .busy) ∧
  (mine → ¬open_ → s.store.commit = none → ¬ok → refused .range) ∧
  (mine → ¬open_ → s.store.commit = none → ok →
    exec (.writeItem p w) s =
      .next (({ s with store := { s.store with work := work, dirty := s.store.dirty.set b true } } : State).replied p
        .writeItem (okAnswer .empty)))

section
variable {s : State} {p : Port} {w : ItemWrite} (hready : s.portReady p (encodePayload (.writeItem p w)).length = true)
include hready

theorem exec_writeItem_noBlock (hb : writtenBlock w = none) :
    exec (.writeItem p w) s = .next (s.replied p .writeItem (refusal .range)) := by
  refine exec_ready_served (by rfl) (by decide) hready (?_ : opWriteItem p w s = refuse s .range)
  rw [opWriteItem, hb]

theorem writeDecided {b : Block} {ok : Prop} {work : Constants} (hb : writtenBlock w = some b)
    (hbad : ¬ok → acceptedValue w = none)
    (hgood : ok → ∃ v, acceptedValue w = some v ∧ s.store.work.write (writtenItem w) v = work) : WriteDecided s p w b ok work := by
  have hrefused {st : Status} (h : opWriteItem p w s = refuse s st) :
      exec (.writeItem p w) s = .next (s.replied p .writeItem (refusal st)) :=
    exec_ready_served (by rfl) (by decide) hready h
  have hin (h : ¬(s.survey.state = .survey ∨ s.survey.state = .held)) : ¬s.inSurvey = true := h ∘ s.inSurvey_iff.1
  have hfree (h : s.store.commit = none) : ¬s.store.commit.isSome = true := by rw [h]; decide
  refine ⟨fun hport => hrefused ?_, fun hport hs => hrefused ?_, fun hport hs hc => hrefused ?_,
    fun hport hs hc hno => hrefused ?_, fun hport hs hc hok => ?_⟩
  · simp only [opWriteItem, hb]
    exact if_pos hport
  · simp only [opWriteItem, hb]
    rw [if_neg (not_not.2 hport), if_pos (s.inSurvey_iff.2 hs)]
  · simp only [opWriteItem, hb]
    rw [if_neg (not_not.2 hport), if_neg (hin hs), if_pos hc]
  · simp only [opWriteItem, hb, hbad hno]
    rw [if_neg (not_not.2 hport), if_neg (hin hs), if_neg (hfree hc)]
  · obtain ⟨v, hv, hwork⟩ := hgood hok
    refine exec_ready_served (by rfl) (by decide) hready (?_ : opWriteItem p w s = _)
    simp only [opWriteItem, hb, hv]
    rw [if_neg (not_not.2 hport), if_neg (hin hs), if_neg (hfree hc), Store.write, hwork]
    rfl

theorem writeDecided_absent {b : Block} (hb : writtenBlock w = some b) (hnone : acceptedValue w = none) (work : Constants) :
    WriteDecided s p w b False work :=
  writeDecided hready hb (fun _ => hnone) False.elim

theorem writeDecided_value {b : Block} {v : ItemValue} {ok : Prop} (hb : writtenBlock w = some b) (hv : writtenValue w = some v)
    (hok : v.inRange = true ↔ ok) : WriteDecided s p w b ok (s.store.work.write (writtenItem w) v) := by
  refine writeDecided hready hb (fun hno => ?_) fun hyes => ⟨v, ?_, rfl⟩
  · rw [acceptedValue, hv]
    exact if_neg (hno ∘ hok.1)
  · rw [acceptedValue, hv]
    exact if_pos (hok.2 hyes)

end

theorem blockOf_eq_none {b : Byte} (h1 : b.toNat ≠ 1) (h2 : b.toNat ≠ 2) (h3 : b.toNat ≠ 3) (h4 : b.toNat ≠ 4)
    (h5 : b.toNat ≠ 5) : blockOf b = none := by
  unfold blockOf
  split
  iterate 5 contradiction
  rfl

theorem within_iff (lo hi x : Nat) : within lo hi x = true ↔ lo ≤ x ∧ x ≤ hi := by
  rw [within, Bool.and_eq_true, decide_eq_true_eq, decide_eq_true_eq]

theorem withinInt_iff (lo hi x : Int) : withinInt lo hi x = true ↔ lo ≤ x ∧ x ≤ hi := by
  rw [withinInt, Bool.and_eq_true, decide_eq_true_eq, decide_eq_true_eq]

/-- Settles O40: each item has its block, its values and their ranges; the checks are the same for all. -/
theorem writeItemChecksInOrder : Obligations.WriteItemChecksInOrder := by
  refine ⟨fun p b i img h => ⟨decodePayload_absentBlock h p, decodePayload_absent (itemLength_of_no_block h i) p img⟩, ?_⟩
  intro s p w hready k refused open_ decided
  have hdecided {b : Block} {ok : Prop} {work : Constants} (h : WriteDecided s p w b ok work) : decided b ok work := by
    cases b <;> exact h
  have hnumbered {b : Block} {n : Nat} {v : ItemValue} {ok : Prop} {work : Constants} (hb : writtenBlock w = some b)
      (hv : writtenValue w = if writtenItem w < n then some v else none) (hok : ok ↔ writtenItem w < n ∧ v.inRange = true)
      (hwork : k.write (writtenItem w) v = work) : decided b ok work := by
    by_cases hn : writtenItem w < n
    · rw [if_pos hn] at hv
      exact hwork ▸ hdecided (writeDecided_value hready hb hv (by rw [hok, and_iff_right hn]))
    · rw [if_neg hn] at hv
      exact hdecided (writeDecided hready hb (fun _ => by rw [acceptedValue, hv]) fun h => absurd (hok.1 h).1 hn)
  cases w with
  | calHeader n tol =>
    refine hdecided (writeDecided_value hready rfl rfl ?_)
    simp only [ItemValue.inRange, Bool.and_eq_true, within_iff]
    omega
  | calInterval i g f =>
    refine hnumbered rfl rfl ?_ rfl
    simp only [ItemValue.inRange, Bool.and_eq_true, within_iff, withinInt_iff, writtenItem]
    omega
  | sensor ox oy kt lt tc shift =>
    have hox := ox.two_mul_toInt_lt
    have hoy := oy.two_mul_toInt_lt
    have htc := tc.two_mul_toInt_lt
    have htc' := tc.le_two_mul_toInt
    refine hdecided (writeDecided_value hready rfl rfl ?_)
    simp only [ItemValue.inRange, Bool.and_eq_true, within_iff, withinInt_iff]
    omega
  | tideHeader m enable delta =>
    have hrange (e : Bool) (he : enable = 0 ∨ enable = 1) : (ItemValue.tideHeader m.toNat e delta.toNat).inRange = true ↔
        m.toNat ≤ 16 ∧ (enable = 0 ∨ enable = 1) ∧ delta.toNat ≤ 32767 := by
      simp only [ItemValue.inRange, Bool.and_eq_true, within_iff, he, true_and]
      omega
    by_cases h0 : enable = 0
    · subst h0
      exact hdecided (writeDecided_value hready rfl rfl (hrange false (.inl rfl)))
    by_cases h1 : enable = 1
    · subst h1
      exact hdecided (writeDecided_value hready rfl rfl (hrange true (.inr rfl)))
    · refine hdecided (writeDecided hready rfl (fun _ => ?_) fun h => absurd h.2.1 (not_or.2 ⟨h0, h1⟩))
      rw [acceptedValue, writtenValue, if_neg h0, if_neg h1]
  | constituent c species a f ph =>
    have ha := a.two_mul_toInt_lt
    have hf := f.isLt
    refine hnumbered rfl rfl ?_ rfl
    simp only [ItemValue.inRange, Bool.and_eq_true, within_iff, withinInt_iff, writtenItem]
    omega
  | settle q a e gapLimit minCount =>
    have hq := q.isLt
    have hmin := minCount.isLt
    refine hdecided (writeDecided_value hready rfl rfl ?_)
    simp only [ItemValue.inRange, Bool.and_eq_true, within_iff]
    omega
  | loop limit ll =>
    refine hdecided (writeDecided_value hready rfl rfl ?_)
    simp only [ItemValue.inRange, Bool.and_eq_true, within_iff]
    omega
  | absent b | absentBlock b =>
    have hblock {block : Block} (h : blockOf b = some block) : decided block False k := hdecided (writeDecided_absent hready h rfl k)
    dsimp only
    split
    next h => exact hblock (by rw [blockOf, h]; rfl)
    next h => exact hblock (by rw [blockOf, h]; rfl)
    next h => exact hblock (by rw [blockOf, h]; rfl)
    next h => exact hblock (by rw [blockOf, h]; rfl)
    next h => exact hblock (by rw [blockOf, h]; rfl)
    next h1 h2 h3 h4 h5 => exact exec_writeItem_noBlock hready (blockOf_eq_none h1 h2 h3 h4 h5)

/-! ## What a written item reads back as (R148, R149) -/

/-- The item number a value stands at: a header's, an interval's or constituent's own, or the only one of its block (R163). -/
def ItemValue.Numbered (n : Nat) : ItemValue → Prop
  | .calHeader .. | .tideHeader .. => n = 255
  | .calInterval _ => n < 80
  | .constituent _ => n < 16
  | .sensor _ | .settle _ | .loop _ => n = 0

theorem acceptedValue_numbered {w : ItemWrite} {v : ItemValue} (h : acceptedValue w = some v) : v.Numbered (writtenItem w) := by
  unfold acceptedValue at h
  split at h
  next x hx =>
    split_ifs at h
    obtain rfl := Option.some.inj h
    cases w with
    | calInterval | constituent =>
      simp only [writtenValue, Option.ite_none_right_eq_some, Option.some.injEq] at hx
      obtain ⟨hn, rfl⟩ := hx
      exact hn
    | tideHeader =>
      simp only [writtenValue] at hx
      split_ifs at hx <;> · cases hx; rfl
    | absent | absentBlock => cases hx
    | calHeader | sensor | settle | loop => cases hx; rfl
  next => cases h

theorem ItemValue.Numbered.lt {v : ItemValue} {n : Nat} (h : v.Numbered n) : n < 256 := by
  cases v <;> simp only [ItemValue.Numbered] at h <;> omega

/-- An item number as a byte. -/
theorem toNat_item {n : Nat} (h : n < 256) : (BitVec.ofNat 8 n).toNat = n := by
  rw [BitVec.toNat_ofNat]
  exact Nat.mod_eq_of_lt h

theorem Constants.read_write_same (c : Constants) {v : ItemValue} {n : Nat} (h : v.Numbered n) (hcal : c.cal.intervals.length = 80)
    (htide : c.tide.parts.length = 16) : (c.write n v).read (blockNumber v.block) (BitVec.ofNat 8 n) = some v := by
  have hitem := toNat_item h.lt
  cases v with
  | calHeader | sensor | tideHeader | settle | loop => obtain rfl : n = _ := h; rfl
  | calInterval x =>
    have hn : n < 80 := h
    refine Constants.read_calInterval (by omega) ?_
    rw [hitem]
    exact List.getElem?_set_self (by omega)
  | constituent x =>
    have hn : n < 16 := h
    refine Constants.read_constituent (by omega) ?_
    rw [hitem]
    exact List.getElem?_set_self (by omega)

/-- Two item numbers that differ, as places in a list. -/
theorem ne_of_item_ne {i : Byte} {n : Nat} (h : i ≠ BitVec.ofNat 8 n) : n ≠ i.toNat := by
  rintro rfl
  exact h (by rw [BitVec.ofNat_toNat, BitVec.setWidth_eq])

theorem Constants.read_write_other_item (c : Constants) {v : ItemValue} {n : Nat} (h : v.Numbered n) {i : Byte}
    (hi : i ≠ BitVec.ofNat 8 n) : (c.write n v).read (blockNumber v.block) i = c.read (blockNumber v.block) i := by
  cases v with
  | calHeader | tideHeader | sensor | settle | loop =>
    obtain rfl : n = _ := h
    exact (if_neg hi).trans (if_neg hi).symm
  | calInterval x =>
    rw [ItemValue.block, blockNumber, Constants.read_cal, Constants.read_cal, Constants.write,
      List.getElem?_set_ne (ne_of_item_ne hi)]
  | constituent x =>
    rw [ItemValue.block, blockNumber, Constants.read_tide, Constants.read_tide, Constants.write,
      List.getElem?_set_ne (ne_of_item_ne hi)]

theorem Constants.read_write_other_block (c : Constants) (v : ItemValue) (n : Nat) {b : Byte} (h : b ≠ blockNumber v.block) (i : Byte) :
    (c.write n v).read b i = c.read b i := by
  cases hb : blockOf b with
  | none => rw [Constants.read_of_blockOf_none hb, Constants.read_of_blockOf_none hb]
  | some block =>
    obtain rfl := eq_blockNumber_of_blockOf hb
    cases v with
    | calHeader | calInterval =>
      cases block with
      | cal => exact absurd rfl h
      | sensor | tide | settle | loop => rfl
    | sensor =>
      cases block with
      | sensor => exact absurd rfl h
      | cal | tide | settle | loop => rfl
    | tideHeader | constituent =>
      cases block with
      | tide => exact absurd rfl h
      | cal | sensor | settle | loop => rfl
    | settle =>
      cases block with
      | settle => exact absurd rfl h
      | cal | sensor | tide | loop => rfl
    | loop =>
      cases block with
      | loop => exact absurd rfl h
      | cal | sensor | tide | settle => rfl

/-- Settles O41: a value stands at its own number, and a write changes what is read there and nowhere else. -/
theorem writtenItemReadsBack : Obligations.WrittenItemReadsBack := by
  intro c w v block _ hblock hv hcal htide
  have hnumbered := acceptedValue_numbered hv
  obtain ⟨-, hb⟩ := acceptedValue_spec hv
  obtain rfl : block = v.block := Option.some.inj (hblock.symm.trans hb)
  refine ⟨c.read_write_same hnumbered hcal htide, fun b i hne => ?_⟩
  by_cases hsame : b = blockNumber v.block
  · subst hsame
    exact c.read_write_other_item hnumbered fun hi => hne ⟨rfl, hi⟩
  · exact c.read_write_other_block v _ hsame i

end Sys2Proof.Machine

/-! SUPPORT. COMMIT and its block writes (section 8.4), and DISCARD (section 8.5). -/

namespace Sys2Proof.Machine

/-! ## Validation (R21, R151) -/

/-- Every field of a block lies within its range. -/
def Constants.fieldsOk (c : Constants) : Block → Bool
  | .cal => c.cal.inRange
  | .sensor => (ItemValue.sensor c.sensor).inRange
  | .tide => c.tide.inRange
  | .settle => (ItemValue.settle c.settle).inRange
  | .loop => (ItemValue.loop c.loop).inRange

theorem Constants.valid_eq (c : Constants) (b : Block) : c.valid b = (c.fieldsOk b && (b != .cal || c.cal.coherent)) := by
  cases b with
  | cal => rfl
  | sensor | tide | settle | loop => exact (Bool.and_true _).symm

theorem CalBlock.inRange_iff (c : CalBlock) :
    c.inRange = true ↔ 1 ≤ c.n ∧ c.n ≤ 80 ∧ c.tol ≤ 1000 ∧ c.intervals.length = 80 ∧
      ∀ v ∈ c.intervals, 0 ≤ v.g ∧ v.g ≤ 100000000 ∧ 1 ≤ v.f ∧ v.f ≤ 2147483648 := by
  simp [CalBlock.inRange, ItemValue.inRange, within_iff, withinInt_iff, and_assoc]

theorem TideBlock.inRange_iff (c : TideBlock) :
    c.inRange = true ↔ c.m ≤ 16 ∧ c.delta ≤ 32767 ∧ c.parts.length = 16 ∧
      ∀ v ∈ c.parts, v.species ≤ 2 ∧ v.f ≤ 4294967295 ∧ v.p ≤ 16777215 ∧ v.a.natAbs ≤ 32767 := by
  have habs (a : Int) : -32767 ≤ a ∧ a ≤ 32767 ↔ a.natAbs ≤ 32767 := by omega
  simp [TideBlock.inRange, ItemValue.inRange, within_iff, withinInt_iff, and_assoc, habs]

theorem SensorBlock.inRange_iff (v : SensorBlock) :
    (ItemValue.sensor v).inRange = true ↔ v.ox.natAbs ≤ 32767 ∧ v.oy.natAbs ≤ 32767 ∧ v.kt ≤ 1048575 ∧ 1 ≤ v.lt ∧
      v.lt ≤ 3000 ∧ -2147483648 ≤ v.tc ∧ v.tc ≤ 2147483647 ∧ v.shift ≤ 10 := by
  simp only [ItemValue.inRange, Bool.and_eq_true, within_iff, withinInt_iff]
  omega

theorem SettleBlock.inRange_iff (v : SettleBlock) :
    (ItemValue.settle v).inRange = true ↔ 1 ≤ v.q ∧ v.q ≤ 65535 ∧ 4 ≤ v.a ∧ v.a ≤ 32 ∧ 1 ≤ v.e ∧ v.e ≤ 31 ∧
      1 ≤ v.gapLimit ∧ v.gapLimit ≤ 30 ∧ 1 ≤ v.minCount ∧ v.minCount ≤ 65535 := by
  simp only [ItemValue.inRange, Bool.and_eq_true, within_iff, and_assoc]

theorem LoopBlock.inRange_iff (v : LoopBlock) :
    (ItemValue.loop v).inRange = true ↔ 1 ≤ v.limit ∧ v.limit ≤ 10000000 ∧ 600 ≤ v.ll ∧ v.ll ≤ 86400 := by
  simp only [ItemValue.inRange, Bool.and_eq_true, within_iff, and_assoc]

theorem coherentFrom_iff (tol : Nat) (l : List Interval) :
    coherentFrom tol l = true ↔ ∀ i a b, l[i]? = some a → l[i + 1]? = some b → (b.g - a.reach).natAbs ≤ tol := by
  induction l with
  | nil => exact iff_of_true rfl fun i a b ha => nomatch ha
  | cons x rest ih =>
    cases rest with
    | nil => exact iff_of_true rfl fun i a b _ hb => nomatch hb
    | cons y ys =>
      rw [coherentFrom, Bool.and_eq_true, decide_eq_true_eq, ih]
      refine ⟨fun ⟨hxy, hrest⟩ i a b ha hb => ?_, fun h => ⟨h 0 x y rfl rfl, fun i a b ha hb => h (i + 1) a b ha hb⟩⟩
      cases i with
      | zero =>
        obtain rfl : x = a := Option.some.inj ha
        obtain rfl : y = b := Option.some.inj hb
        exact hxy
      | succ i => exact hrest i a b ha hb

theorem CalBlock.coherent_iff (c : CalBlock) :
    c.coherent = true ↔ ∀ i a b, i + 1 < c.n → c.intervals[i]? = some a → c.intervals[i + 1]? = some b →
      (b.g - a.reach).natAbs ≤ c.tol := by
  rw [CalBlock.coherent, coherentFrom_iff]
  refine forall_congr' fun i => forall_congr' fun a => forall_congr' fun b => ?_
  rw [List.getElem?_take, List.getElem?_take]
  by_cases h : i + 1 < c.n
  · rw [if_pos (by omega), if_pos h, imp_iff_right h]
  · rw [if_neg h]
    exact iff_of_true (fun _ hb => nomatch hb) fun h' => absurd h' h

/-- A block equals its image where the image is its values and these are in range (R150, R152). -/
theorem Images.holds_iff (i : Images) (c : Constants) (b : Block) :
    i.holds c b = true ↔ c.fieldsOk b = true ∧
      match b with
      | .cal => i.cal = some c.cal
      | .sensor => i.sensor = some c.sensor
      | .tide => i.tide = some c.tide
      | .settle => i.settle = some c.settle
      | .loop => i.loop = some c.loop := by
  cases b <;> simp only [Images.holds, Images.validCal, Images.validSensor, Images.validTide, Images.validSettle, Images.validLoop,
    beq_iff_eq, Option.filter_eq_some_iff, Constants.fieldsOk] <;> exact and_comm

/-! ## COMMIT -/

section
variable {s : State} (hs : s.inSurvey = false) (hc : s.store.commit = none) (hd : s.store.computing = false)
include hs hc hd

theorem opCommit_invalid {b : Block} (h : s.store.toCommit.find? (fun b => !s.store.work.valid b) = some b) :
    opCommit s = (s, some { status := .invalid, payload := .invalid b }) := by
  rw [opCommit, if_neg (by simp [hs]), if_neg (by simp [hc]), if_neg (by simp [hd]), h]

theorem opCommit_accepted (h : s.store.toCommit.find? (fun b => !s.store.work.valid b) = none) :
    opCommit s = accept (s.commitFrom false false s.store.toCommit) (.blocks s.store.toCommit.length) := by
  rw [opCommit, if_neg (by simp [hs]), if_neg (by simp [hc]), if_neg (by simp [hd]), h]

end

/-- Settles O42: the checks, the first invalid block, and the blocks examined in order. -/
theorem commitExaminesTheBlocks : Obligations.CommitExaminesTheBlocks := by
  intro s p hready k open_ todo inRange coherent valid equal accepted
  have hfields (b : Block) : k.fieldsOk b = true ↔ inRange b := by
    cases b with
    | cal => exact CalBlock.inRange_iff _
    | sensor => exact SensorBlock.inRange_iff _
    | tide => exact TideBlock.inRange_iff _
    | settle => exact SettleBlock.inRange_iff _
    | loop => exact LoopBlock.inRange_iff _
  have hvalid (b : Block) : k.valid b = true ↔ valid b := by
    have hcoherent : (b != .cal || k.cal.coherent) = true ↔ (b = .cal → coherent) := by
      rw [Bool.or_eq_true, bne_iff_ne, ← imp_iff_not_or]
      exact imp_congr_right fun _ => CalBlock.coherent_iff _
    rw [Constants.valid_eq, Bool.and_eq_true, hfields, hcoherent]
  have hequal (b : Block) : s.nv.holds k b = true ↔ equal b := by
    have hholds := s.nv.holds_iff k b
    rw [hfields] at hholds
    cases b <;> exact hholds
  have hout (h : ¬open_) : s.inSurvey = false := s.inSurvey_eq_false_iff.2 h
  have hserved {st : Status} (h : opCommit s = refuse s st) : exec (.commit p) s = .next (s.replied p .commit (refusal st)) :=
    exec_ready_served (by rfl) (by decide) hready h
  refine ⟨fun hs => hserved (if_pos (s.inSurvey_iff.2 hs)), fun hs hbusy => hserved ?_, fun hs hc hd => ⟨?_, ?_⟩⟩
  · rw [opCommit, if_neg (by simp [hout hs])]
    split_ifs with h1 h2
    · rfl
    · rfl
    · exact absurd hbusy (not_or.2 ⟨h1, h2⟩)
  · intro before b after htodo hbefore hb
    have hfind : s.store.toCommit.find? (fun b => !s.store.work.valid b) = some b := by
      rw [List.find?_eq_some_iff_append]
      refine ⟨by simpa using (hvalid b).not.2 hb, before, after, htodo, fun x hx => ?_⟩
      simpa using (hvalid x).2 (hbefore x hx)
    exact exec_ready_served (by rfl) (by decide) hready (opCommit_invalid (hout hs) hc hd hfind)
  · intro hall same others htodo hsame marks
    have hfind : s.store.toCommit.find? (fun b => !s.store.work.valid b) = none := by
      rw [List.find?_eq_none]
      intro b hb
      simpa using (hvalid b).2 (hall b hb)
    have hop := opCommit_accepted (hout hs) hc hd hfind
    have hlist : s.store.toCommit = same ++ others := htodo
    have hcommit : s.commitFrom false false s.store.toCommit =
        (s.setStore { s.store with dirty := marks }).commitFrom false false others := by
      rw [hlist]
      exact State.commitFrom_append false false same others fun b hb => (hequal b).2 (hsame b hb)
    refine ⟨fun hnil => ?_, fun b rest hcons hne => ?_⟩
    · refine exec_ready_served (by rfl) (by decide) hready (hop.trans ?_)
      have hdone : (s.setStore { s.store with dirty := marks }).commitFrom false false others =
          (({ s with store := { s.store with dirty := marks } } : State).raise .commitDone).leaveUnset := by
        rw [hnil, State.commitFrom_nil, State.commitDone, Bool.or_false, ← hc]
        rfl
      rw [hcommit, hdone]
      rfl
    · refine exec_ready_served (by rfl) (by decide) hready (hop.trans ?_)
      rw [hcommit, hcons, State.commitFrom_cons (s := s.setStore { s.store with dirty := marks }) false false rest
        (Bool.eq_false_iff.2 ((hequal b).not.2 hne))]
      rfl

/-! ## Block writes -/

theorem State.blockWritten_of_commit {s : State} {b : Block} {rest : List Block} (h : s.store.commit = some (b :: rest)) :
    s.blockWritten = ((s.setNv (s.nv.write s.store.work b)).setStore (s.store.written b)).commitFrom true s.pauses rest := by
  rw [State.blockWritten, h]

/-- Where a list is its longest prefix on which `f` holds and then an element, `f` fails there. -/
theorem takeWhile_stops {α : Type} {f : α → Bool} {l rest : List α} {x : α} (h : l = l.takeWhile f ++ x :: rest) : f x = false := by
  have hdrop : l.dropWhile f = x :: rest :=
    List.append_cancel_left ((List.takeWhile_append_dropWhile (p := f) (l := l)).trans h)
  have hfind : l.find? (fun y => !f y) = some x := by
    rw [List.find?_not_eq_head?_dropWhile, hdrop, List.head?_cons]
  simpa using List.find?_some hfind

/-- No event that begins or prepares a restart touches an image (R156). -/
theorem restart_nv {s t : State} {p : Port} {vbak : Bool}
    (h : s.portReady p 0 = true ∧ exec (.softReset p) s = .next t ∨ exec .resetnRelease s = .next t ∨ exec .vddRise s = .next t ∨
      exec (.vddFall vbak) s = .next t) : t.nv = s.nv := by
  obtain ⟨hready, hexec⟩ | hexec | hexec | hexec := h
  · rw [exec_softReset_restarts hready] at hexec
    cases hexec
    simp
  · obtain rfl : (if s.supply.resetLow then s.resetReleases else s) = t := Host.Outcome.next.inj hexec
    split_ifs
    · unfold State.resetReleases
      dsimp only
      split_ifs <;> simp
    · rfl
  · obtain rfl : (if s.supply.vdd then s else s.vddRises) = t := Host.Outcome.next.inj hexec
    split_ifs
    · rfl
    · unfold State.vddRises
      dsimp only
      split_ifs <;> simp
  · obtain rfl : (if s.supply.vdd then s.vddFalls vbak else s) = t := Host.Outcome.next.inj hexec
    split_ifs
    · unfold State.vddFalls
      dsimp only
      split_ifs <;> simp
    · rfl

/-- Settles O43: a completed write leaves a commit to be gone on with; no restart touches an image. -/
theorem blockWriteCompletes : Obligations.BlockWriteCompletes := by
  refine ⟨fun s hlive => ⟨fun hnone => ?_, fun b rest hcommit => ?_⟩, fun s t p vbak h => restart_nv h⟩
  · refine congrArg _ ((if_pos hlive).trans ?_)
    rw [State.blockWritten, hnone]
  · have hexec : exec .blockWriteComplete s = .next s.blockWritten := congrArg _ (if_pos hlive)
    rw [hexec, State.blockWritten_of_commit hcommit]
    intro nv same dirty defaulted
    have hgoes {others : List Block} (h : rest = same ++ others) :
        ((s.setNv nv).setStore (s.store.written b)).commitFrom true s.pauses rest =
          (((s.setNv nv).setStore { s.store with dirty := dirty, defaulted := defaulted }).commitFrom true s.pauses others) := by
      rw [h]
      exact State.commitFrom_append (s := (s.setNv nv).setStore (s.store.written b)) true s.pauses same others fun x hx =>
        List.mem_takeWhile_imp hx
    refine ⟨fun hall => ?_, fun b' rest' hsplit => ?_⟩
    · rw [hgoes (others := []) (by rw [List.append_nil]; exact hall), State.commitFrom_nil, State.commitDone, Bool.or_true]
      rfl
    · rw [hgoes hsplit, State.commitFrom_cons (s := (s.setNv nv).setStore { s.store with dirty := dirty, defaulted := defaulted }) true
        s.pauses rest' (takeWhile_stops hsplit)]
      rfl

/-! ## DISCARD -/

theorem filter_getD_of_valid {α : Type} {o : Option α} {f : α → Bool} {v : α} (ho : o = some v) (hv : f v = true) (d : α) :
    (o.filter f).getD d = v ∧ (o.filter f).isNone = false := by
  rw [ho, Option.filter_some, if_pos hv]
  exact ⟨rfl, rfl⟩

theorem filter_getD_of_invalid {α : Type} {o : Option α} {f : α → Bool} (h : ∀ v, o = some v → f v = false) (d : α) :
    (o.filter f).getD d = d ∧ (o.filter f).isNone = true := by
  have hnone : o.filter f = none := by
    rw [Option.filter_eq_none_iff]
    exact fun v hv => by rw [h v hv]; decide
  rw [hnone]
  exact ⟨rfl, rfl⟩

/-- Settles O44: the reload takes a valid image's values and else the defaults, block by block. -/
theorem discardReloadsTheImages : Obligations.DiscardReloadsTheImages := by
  intro s p hready open_
  have hserved {st : Status} (h : opDiscard s = refuse s st) : exec (.discard p) s = .next (s.replied p .discard (refusal st)) :=
    exec_ready_served (by rfl) (by decide) hready h
  have hin (h : ¬open_) : ¬s.inSurvey = true := h ∘ s.inSurvey_iff.1
  refine ⟨fun hs => hserved (if_pos (s.inSurvey_iff.2 hs)), fun hs hc => hserved ?_, fun hs hc => ?_⟩
  · rw [opDiscard, if_neg (hin hs), if_pos hc]
  · refine ⟨s.nv.constants, s.nv.invalid, exec_ready_served (by rfl) (by decide) hready (?_ : opDiscard s = _),
      fun v h hv => filter_getD_of_valid h hv _, fun h => filter_getD_of_invalid h _,
      fun v h hv => filter_getD_of_valid h hv _, fun h => filter_getD_of_invalid h _,
      fun v h hv => filter_getD_of_valid h hv _, fun h => filter_getD_of_invalid h _,
      fun v h hv => filter_getD_of_valid h hv _, fun h => filter_getD_of_invalid h _,
      fun v h hv => filter_getD_of_valid h hv _, fun h => filter_getD_of_invalid h _⟩
    rw [opDiscard, if_neg (hin hs), if_neg (by rw [hc]; decide)]
    rfl

end Sys2Proof.Machine

/-! SUPPORT. Request frames as bytes (sections 9.1 to 9.4): decoding undoes encoding, and the judgement of a meter-port transaction. -/

namespace Sys2Proof.Machine

/-! ## Fields of several bytes -/

theorem le16_bytes (x : U16) : le16 (x.extractLsb' 0 8) (x.extractLsb' 8 8) = x := by
  rw [le16, BitVec.extractLsb'_append_extractLsb'_eq_extractLsb' (by rfl)]
  simp

theorem le32_bytes (x : U32) : le32 (x.extractLsb' 0 8) (x.extractLsb' 8 8) (x.extractLsb' 16 8) (x.extractLsb' 24 8) = x := by
  rw [le32, BitVec.extractLsb'_append_extractLsb'_eq_extractLsb' (by rfl),
    BitVec.extractLsb'_append_extractLsb'_eq_extractLsb' (by rfl), BitVec.extractLsb'_append_extractLsb'_eq_extractLsb' (by rfl)]
  simp

/-! ## Payloads (R161, R163) -/

theorem decodePayload_encodeItem {w : ItemWrite} (h : w.wellFormed = true) (p : Port) :
    decodePayload p .writeItem (encodeItem w) = some (.writeItem p w) := by
  cases w with
  | calHeader | sensor | tideHeader | settle | loop =>
    simp [decodePayload, encodeItem, decodeItem, itemLength, bytes16, bytes32, le16_bytes, le32_bytes]
  | calInterval i g f =>
    have hi : i.toNat < 80 := of_decide_eq_true h
    have hne : i ≠ 255#8 := ne_headerItem_of_lt hi (by decide)
    simp [decodePayload, encodeItem, decodeItem, itemLength, bytes32, le32_bytes, hi, hne]
  | constituent k species a f ph =>
    have hk : k.toNat < 16 := of_decide_eq_true h
    have hne : k ≠ 255#8 := ne_headerItem_of_lt hk (by decide)
    simp [decodePayload, encodeItem, decodeItem, itemLength, bytes16, bytes32, le16_bytes, le32_bytes, hk, hne]
  | absent block item => exact decodePayload_absent (Option.isNone_iff_eq_none.1 h) p []
  | absentBlock block => exact if_neg (by simpa [ItemWrite.wellFormed] using h)

/-- Decoding a request's payload gives the request. -/
theorem decodePayload_encodePayload {i : Instr} {p : Port} {r : Req} (hi : i.request = some (p, r)) (h : i.wellFormed = true) :
    decodePayload p r (encodePayload i) = some i := by
  cases i <;> simp only [Instr.request, Option.some.injEq, Prod.mk.injEq, reduceCtorEq] at hi <;> obtain ⟨rfl, rfl⟩ := hi
  case writeItem p w => exact decodePayload_encodeItem h p
  all_goals simp [decodePayload, encodePayload, bytes16, bytes32, le16_bytes, le32_bytes]

theorem encodePayload_length_le (i : Instr) : (encodePayload i).length ≤ 18 := by
  cases i
  case writeItem p w => cases w <;> exact of_decide_eq_true rfl
  all_goals exact of_decide_eq_true rfl

/-! ## Codes (R161) -/

theorem Req.ofCode_code (r : Req) : Req.ofCode r.code = some r := by cases r <;> rfl

theorem Req.code_ne_zero (r : Req) : r.code ≠ 0 := by cases r <;> decide

theorem Req.ofCode_eq_none {c : Byte} (h : ∀ r : Req, r.code ≠ c) : Req.ofCode c = none :=
  List.find?_eq_none.2 fun r _ => by simpa using h r

theorem judgeRequest_unknown {c : Byte} (h : ∀ r : Req, r.code ≠ c) (p : Port) (pl : List Byte) :
    judgeRequest p c pl = .reject .unknown := by
  rw [judgeRequest, Req.ofCode_eq_none h]

theorem judgeRequest_frame {p : Port} {r : Req} {pl : List Byte} (h : decodePayload p r pl = none) :
    judgeRequest p r.code pl = .reject .frame := by
  simp only [judgeRequest, Req.ofCode_code, h]

theorem judgeRequest_good {p : Port} {r : Req} {pl : List Byte} {i : Instr} (h : decodePayload p r pl = some i) :
    judgeRequest p r.code pl = .good i := by
  simp only [judgeRequest, Req.ofCode_code, h]

/-! ## Sums and check bytes (R158, R159) -/

theorem foldl_add_toNat (bs : List Byte) (x : Byte) :
    (bs.foldl (· + ·) x).toNat = (x.toNat + (bs.map (·.toNat)).sum) % 256 := by
  induction bs generalizing x with
  | nil => exact (Nat.mod_eq_of_lt x.isLt).symm
  | cons b rest ih =>
    rw [List.foldl_cons, ih, BitVec.toNat_add, List.map_cons, List.sum_cons]
    omega

theorem byteSum_toNat (bs : List Byte) : (byteSum bs).toNat = (bs.map (·.toNat)).sum % 256 := by
  rw [byteSum, foldl_add_toNat]
  simp

theorem byteSum_eq_zero_iff (bs : List Byte) : byteSum bs = 0 ↔ (bs.map (·.toNat)).sum % 256 = 0 := by
  rw [← byteSum_toNat]
  exact ⟨fun h => by rw [h]; rfl, fun h => BitVec.eq_of_toNat_eq h⟩

theorem byteSum_checked (body : List Byte) : byteSum (body ++ [checkByte body]) = 0 := by
  have h : byteSum (body ++ [checkByte body]) = byteSum body + checkByte body := by rw [byteSum, List.foldl_append]; rfl
  rw [h, checkByte]
  exact BitVec.add_right_neg _

/-! ## A meter-port transaction judged (R158) -/

theorem judgeMeter_long {c l : Byte} {body : List Byte} (hc : c ≠ 0) :
    judgeMeter (c :: l :: body) =
      if 80 < l.toNat then .reject .frame
      else if body.length < l.toNat + 1 then .reject .frame
      else if byteSum (c :: l :: body.take (l.toNat + 1)) ≠ 0 then .reject .frame
      else judgeRequest .meter c (body.take l.toNat) := if_neg hc

section
variable {s : State} {bytes : List Byte} {txn : Txn} (hv : s.supply.vdd = true) (hl : s.supply.resetLow = false)
  (ht : s.meter.txn = some txn)
include hv hl ht

theorem exec_meterFrameReject_discard (hd : txn.discard = true) : exec (.meterFrameReject bytes) s = .next s.csRise := by
  refine congrArg Host.Outcome.next ((if_pos (State.receiving_of hv hl)).trans ?_)
  rw [State.examine, State.openTxn_of_open ht]
  simp only [ht, hd, if_true]

variable (hlen : bytes.length ≤ txn.clocked) (hd : txn.discard = false)
include hlen hd

theorem exec_meterFrameReject_empty (hj : judgeMeter bytes = .empty) : exec (.meterFrameReject bytes) s = .next s.csRise := by
  refine congrArg Host.Outcome.next ((if_pos (State.receiving_of hv hl)).trans ?_)
  rw [State.examine, State.openTxn_of_open ht]
  simp only [ht, hd, Bool.false_eq_true, if_false, List.take_of_length_le hlen, hj]

theorem exec_meterFrameReject_rejected {f : FrameFault} (hj : judgeMeter bytes = .reject f) :
    exec (.meterFrameReject bytes) s = .next (s.answeredAtOnce .meter 0 (refusal (faultStatus f))) := by
  refine congrArg Host.Outcome.next ((if_pos (State.receiving_of hv hl)).trans ?_)
  rw [State.examine, State.openTxn_of_open ht]
  simp only [ht, hd, Bool.false_eq_true, if_false, List.take_of_length_le hlen, hj]
  rfl

theorem exec_meterFrameReject_good {i : Instr} (hj : judgeMeter bytes = .good i) :
    exec (.meterFrameReject bytes) s = .next (s.serve i) := by
  refine congrArg Host.Outcome.next ((if_pos (State.receiving_of hv hl)).trans ?_)
  rw [State.examine, State.openTxn_of_open ht]
  simp only [ht, hd, Bool.false_eq_true, if_false, List.take_of_length_le hlen, hj]

end

/-- Settles O53: each clause is one path through `judgeMeter`. -/
theorem meterFramesAreJudgedInOrder : Obligations.MeterFramesAreJudgedInOrder := by
  intro s bytes txn hv hl ht hlen quiet answered
  refine ⟨exec_meterFrameReject_discard hv hl ht, fun hd => ?_⟩
  have hrejected {f : FrameFault} (hj : judgeMeter bytes = .reject f) : answered (faultStatus f) :=
    exec_meterFrameReject_rejected hv hl ht hlen hd hj
  have hempty (hj : judgeMeter bytes = .empty) : quiet := exec_meterFrameReject_empty hv hl ht hlen hd hj
  refine ⟨fun h => hempty (by rw [h]; rfl), fun rest h => hempty (by rw [h]; rfl),
    fun c h hc => hrejected (f := .frame) (by rw [h]; exact if_neg hc), ?_⟩
  intro c l body h hc given sum
  have hjudge := judgeMeter_long (l := l) (body := body) hc
  rw [← h] at hjudge
  have hsum : byteSum (c :: l :: given) = 0 ↔ sum = 0 := byteSum_eq_zero_iff _
  refine ⟨fun h1 => hrejected (f := .frame) ?_, fun h1 h2 => hrejected (f := .frame) ?_,
    fun h1 h2 h3 => hrejected (f := .frame) ?_, fun h1 h2 h3 hcode => hrejected (f := .unknown) ?_,
    fun h1 h2 h3 r hr hpl => hrejected (f := .frame) ?_⟩
  · rw [hjudge, if_pos h1]
  · rw [hjudge, if_neg (by omega), if_pos h2]
  · rw [hjudge, if_neg (by omega), if_neg (by omega), if_pos (hsum.not.2 h3)]
  · rw [hjudge, if_neg (by omega), if_neg (by omega), if_neg (not_not.2 (hsum.2 h3)), judgeRequest_unknown hcode]
  · subst hr
    rw [hjudge, if_neg (by omega), if_neg (by omega), if_neg (not_not.2 (hsum.2 h3)), judgeRequest_frame hpl]

end Sys2Proof.Machine

/-! SUPPORT. The survey port's receiver byte by byte (section 9.2), and frames taken as their requests (sections 9.1 to 9.4). -/

namespace Sys2Proof.Machine

/-! ## One byte (R159) -/

theorem exec_surveyFrameReject (s : State) (bytes : List Byte) : exec (.surveyFrameReject bytes) s = .next (s.receiveBytes bytes) := rfl

theorem State.receiveBytes_nil (s : State) : s.receiveBytes [] = s := rfl

theorem State.receiveBytes_of_receiving {s : State} (h : s.receiving = true) (b : Byte) (rest : List Byte) :
    s.receiveBytes (b :: rest) = (s.receiveByte b).receiveBytes rest := by
  rw [State.receiveBytes_cons]
  exact congrArg (State.receiveBytes · rest) (if_pos h)

theorem State.receiveBytes_single {s : State} (h : s.receiving = true) (b : Byte) : s.receiveBytes [b] = s.receiveByte b :=
  State.receiveBytes_of_receiving h b []

theorem State.receiveBytes_append (s : State) (xs ys : List Byte) : s.receiveBytes (xs ++ ys) = (s.receiveBytes xs).receiveBytes ys :=
  List.foldl_append

theorem badLength_iff (l : Byte) : badLength l = true ↔ l = 0 ∨ 250 < l.toNat := by simp [badLength]

theorem badLength_eq_false {l : Byte} (h1 : 1 ≤ l.toNat) (h2 : l.toNat ≤ 250) : badLength l = false := by
  rw [Bool.eq_false_iff, ne_eq, badLength_iff]
  rintro (rfl | h)
  · exact absurd h1 (by decide)
  · omega

theorem frameComplete_cons (l : Byte) (rest : List Byte) : frameComplete (l :: rest) = decide (rest.length = l.toNat + 1) := by
  simp [frameComplete]

section
variable {s : State} {b l : Byte} {rest : List Byte}

theorem State.receiveByte_stray (h : s.uart.rx = .hunt) (hb : b ≠ 0xA5) : s.receiveByte b = s := by
  rw [State.receiveByte, h]
  exact if_pos hb

theorem State.receiveByte_sync (h : s.uart.rx = .hunt) (ho : s.uart.out = none) :
    s.receiveByte 0xA5 = s.setUart { s.uart with rx := .receive, buf := [], timer := true } := by
  rw [State.receiveByte, h]
  exact (if_neg (by simp)).trans (if_pos (by rw [ho]; rfl))

theorem State.receiveByte_overrun (h : s.uart.rx = .hunt) (ho : s.uart.out ≠ none) :
    s.receiveByte 0xA5 = s.setUart { s.uart.overrun with rx := .discard, buf := [], timer := true } := by
  rw [State.receiveByte, h]
  exact (if_neg (by simp)).trans (if_neg (by rw [Option.isNone_iff_eq_none]; exact ho))

/-- The first byte of a frame is a length that ends it. -/
theorem State.receiveByte_badLength (h : s.uart.rx = .receive) (hbuf : s.uart.buf = []) (hb : badLength b = true) :
    s.receiveByte b = s.rejectSurvey .frame [b] := by
  simp only [State.receiveByte, h, hbuf, hb, List.isEmpty_nil, Bool.and_self, if_true, List.nil_append]

theorem State.receiveByte_badLength_discard (h : s.uart.rx = .discard) (hbuf : s.uart.buf = []) (hb : badLength b = true) :
    s.receiveByte b = s.setUart s.uart.hunting := by
  simp only [State.receiveByte, h, hbuf, hb, List.isEmpty_nil, Bool.and_self, if_true]

/-- With a good length byte at the head of what is collected, no byte ends the frame for its length. -/
theorem goodLength_of_append (hbuf : s.uart.buf ++ [b] = l :: rest) (hl : badLength l = false) :
    (s.uart.buf.isEmpty && badLength b) = false := by
  cases hb : s.uart.buf with
  | nil =>
    rw [hb] at hbuf
    obtain rfl : b = l := (List.cons.inj hbuf).1
    rw [hl, Bool.and_false]
  | cons => rfl

/-- A byte inside a frame is collected, in RECEIVE and in DISCARD. -/
theorem State.receiveByte_collect (h : s.uart.rx ≠ .hunt) (hbuf : s.uart.buf ++ [b] = l :: rest) (hl : badLength l = false)
    (hlen : rest.length < l.toNat + 1) :
    s.receiveByte b = s.setUart { s.uart with buf := s.uart.buf ++ [b], timer := true } := by
  have hmore : frameComplete (l :: rest) = false := by rw [frameComplete_cons]; exact decide_eq_false (by omega)
  cases hrx : s.uart.rx with
  | hunt => exact absurd hrx h
  | receive | discard =>
    simp only [State.receiveByte, hrx, goodLength_of_append hbuf hl, hbuf, hmore, Bool.false_eq_true, if_false]
    rw [SurveyPort.collect, hbuf, hrx]

/-- The last byte of a frame in RECEIVE: the frame is judged. -/
theorem State.receiveByte_judge (h : s.uart.rx = .receive) (hbuf : s.uart.buf ++ [b] = l :: rest) (hl : badLength l = false)
    (hlen : rest.length = l.toNat + 1) : s.receiveByte b = s.judgeFrame (l :: rest) := by
  have hdone : frameComplete (l :: rest) = true := by rw [frameComplete_cons]; exact decide_eq_true hlen
  simp only [State.receiveByte, h, goodLength_of_append hbuf hl, hbuf, hdone, Bool.false_eq_true, if_false, if_true]

/-- The last byte of a frame in DISCARD: the frame is dropped. -/
theorem State.receiveByte_drop (h : s.uart.rx = .discard) (hbuf : s.uart.buf ++ [b] = l :: rest) (hl : badLength l = false)
    (hlen : rest.length = l.toNat + 1) : s.receiveByte b = s.setUart s.uart.hunting := by
  have hdone : frameComplete (l :: rest) = true := by rw [frameComplete_cons]; exact decide_eq_true hlen
  simp only [State.receiveByte, h, goodLength_of_append hbuf hl, hbuf, hdone, Bool.false_eq_true, if_false, if_true]

end

/-! ## Several bytes -/

/-- The receiver after bytes inside a frame. -/
theorem State.receiveBytes_collect {s : State} (hr : s.receiving = true) (h : s.uart.rx ≠ .hunt) {l : Byte} (hl : badLength l = false)
    {xs rest : List Byte} (hbuf : s.uart.buf ++ xs = l :: rest) (hlen : rest.length < l.toNat + 1) :
    s.receiveBytes xs = s.setUart { s.uart with buf := s.uart.buf ++ xs, timer := s.uart.timer || !xs.isEmpty } := by
  induction xs generalizing s with
  | nil => simp [State.receiveBytes_nil, State.setUart]
  | cons b ys ih =>
    obtain ⟨front, hfront⟩ : ∃ front, s.uart.buf ++ [b] = l :: front := by
      cases hb : s.uart.buf with
      | nil =>
        rw [hb] at hbuf
        exact ⟨[], by rw [(List.cons.inj hbuf).1]; rfl⟩
      | cons c cs =>
        rw [hb] at hbuf
        exact ⟨cs ++ [b], by rw [← (List.cons.inj hbuf).1]; rfl⟩
    have hsplit : (l :: front) ++ ys = l :: rest := by rw [← hfront, ← hbuf, List.append_assoc]; rfl
    have hshort : front.length < l.toNat + 1 := by
      have := congrArg List.length hsplit
      simp at this
      omega
    rw [State.receiveBytes_of_receiving hr, State.receiveByte_collect h hfront hl hshort]
    have hnext := ih (s := s.setUart { s.uart with buf := s.uart.buf ++ [b], timer := true }) hr h
      (by rw [← hsplit, ← hfront]; rfl)
    rw [hnext]
    simp [State.setUart]

/-- A request served is the same whatever the receiver has collected: taking it ends the frame. -/
theorem State.serve_receiver {s : State} (hr : s.receiving = true) (x : RxState) (y : List Byte) (z : Bool) {i : Instr} {r : Req}
    (hi : i.request = some (.survey, r)) :
    (s.setUart { s.uart with rx := x, buf := y, timer := z }).serve i = s.serve i := by
  rw [State.serve_eq _ hi, State.serve_eq _ hi, State.take, State.take, if_pos hr]
  exact if_pos hr

/-- A frame is judged the same whatever the receiver has collected. -/
theorem State.judgeFrame_receiver {s : State} (hr : s.receiving = true) (x : RxState) (y : List Byte) (z : Bool) (frame : List Byte) :
    (s.setUart { s.uart with rx := x, buf := y, timer := z }).judgeFrame frame = s.judgeFrame frame := by
  unfold State.judgeFrame
  cases h : judgeSurvey frame with
  | empty => rfl
  | reject f => rfl
  | good i =>
    obtain ⟨r, hi⟩ := judgeSurvey_request h
    exact State.serve_receiver hr x y z hi

section
variable {s : State} (hr : s.receiving = true) {tail rest : List Byte} {l : Byte} (hne : tail ≠ [])
  (hbuf : s.uart.buf ++ tail = l :: rest) (hl : badLength l = false) (hlen : rest.length = l.toNat + 1)
include hr hne hbuf hl hlen

/-- All bytes but the last of a frame have been collected, and the last one completes it. -/
theorem State.receiveBytes_last (hrx : s.uart.rx ≠ .hunt) :
    ∃ xs b z, xs ++ [b] = l :: rest ∧
      s.receiveBytes tail = (s.setUart { s.uart with buf := xs, timer := z }).receiveByte b := by
  obtain ⟨ys, b, rfl⟩ : ∃ ys b, tail = ys ++ [b] := ⟨tail.dropLast, tail.getLast hne, (List.dropLast_append_getLast hne).symm⟩
  rw [← List.append_assoc] at hbuf
  obtain ⟨front, hfront⟩ : ∃ front, s.uart.buf ++ ys = l :: front := by
    cases h : s.uart.buf ++ ys with
    | nil =>
      rw [h] at hbuf
      obtain ⟨-, rfl⟩ := List.cons.inj hbuf
      simp at hlen
    | cons c cs =>
      rw [h] at hbuf
      exact ⟨cs, by rw [(List.cons.inj hbuf).1]⟩
  have hshort : front.length < l.toNat + 1 := by
    rw [hfront] at hbuf
    have := congrArg List.length hbuf
    simp at this
    omega
  refine ⟨s.uart.buf ++ ys, b, s.uart.timer || !ys.isEmpty, hbuf, ?_⟩
  rw [State.receiveBytes_append, State.receiveBytes_collect hr hrx hl hfront hshort]
  refine State.receiveBytes_single ?_ b
  exact hr

theorem State.receiveBytes_judge (hrx : s.uart.rx = .receive) : s.receiveBytes tail = s.judgeFrame (l :: rest) := by
  obtain ⟨xs, b, z, hxs, hlast⟩ := State.receiveBytes_last hr hne hbuf hl hlen (by rw [hrx]; decide)
  rw [hlast, State.receiveByte_judge (s := s.setUart { s.uart with buf := xs, timer := z }) hrx hxs hl hlen]
  exact State.judgeFrame_receiver hr s.uart.rx xs z (l :: rest)

theorem State.receiveBytes_drop (hrx : s.uart.rx = .discard) : s.receiveBytes tail = s.setUart s.uart.hunting := by
  obtain ⟨xs, b, z, hxs, hlast⟩ := State.receiveBytes_last hr hne hbuf hl hlen (by rw [hrx]; decide)
  rw [hlast, State.receiveByte_drop (s := s.setUart { s.uart with buf := xs, timer := z }) hrx hxs hl hlen]
  rfl

end

/-- A whole frame, its sync byte first, received in HUNT with no request outstanding. -/
theorem State.receiveBytes_frame {s : State} (hr : s.receiving = true) (hrx : s.uart.rx = .hunt) (ho : s.uart.out = none) {l : Byte}
    {rest : List Byte} (hl : badLength l = false) (hlen : rest.length = l.toNat + 1) :
    s.receiveBytes (0xA5 :: l :: rest) = s.judgeFrame (l :: rest) := by
  rw [State.receiveBytes_of_receiving hr, State.receiveByte_sync hrx ho,
    State.receiveBytes_judge (s := s.setUart { s.uart with rx := .receive, buf := [], timer := true }) hr (List.cons_ne_nil _ _) rfl hl
      hlen rfl]
  exact State.judgeFrame_receiver hr .receive [] true (l :: rest)

/-! ## Frames taken as their requests -/

theorem toNat_length {n : Nat} (h : n ≤ 19) : (BitVec.ofNat 8 n).toNat = n := toNat_item (by omega)

theorem judgeMeter_encodeFrame {i : Instr} {r : Req} {frame : List Byte} (hi : i.request = some (.meter, r)) (hwf : i.wellFormed = true)
    (hf : encodeFrame i = some frame) : judgeMeter frame = .good i ∧ frame.length = (encodePayload i).length + 3 := by
  have hpl := decodePayload_encodePayload hi hwf
  have hle := encodePayload_length_le i
  rw [encodeFrame, hi] at hf
  obtain rfl := Option.some.inj hf
  generalize encodePayload i = pl at hpl hle
  have hlen : (BitVec.ofNat 8 pl.length).toNat = pl.length := toNat_length (by omega)
  have hsum := byteSum_checked ([r.code, BitVec.ofNat 8 pl.length] ++ pl)
  refine ⟨?_, by simp⟩
  generalize checkByte ([r.code, BitVec.ofNat 8 pl.length] ++ pl) = check at hsum
  have hzero : byteSum (r.code :: BitVec.ofNat 8 pl.length :: (pl ++ [check])) = 0 := hsum
  change judgeMeter (r.code :: BitVec.ofNat 8 pl.length :: (pl ++ [check])) = _
  rw [judgeMeter_long (Req.code_ne_zero r), hlen, List.take_of_length_le (by simp), List.take_left' rfl, if_neg (by omega),
    if_neg (by simp), if_neg (not_not.2 hzero), judgeRequest_good hpl]

theorem judgeSurvey_long (l type : Byte) (rest : List Byte) :
    judgeSurvey (l :: type :: rest) =
      if byteSum (l :: type :: rest) ≠ 0 then .reject .frame else judgeRequest .survey type rest.dropLast := rfl

/-- A request's frame on the survey port: its length byte counts the type byte and the payload. -/
theorem judgeSurvey_encodeFrame {i : Instr} {r : Req} {frame : List Byte} (hi : i.request = some (.survey, r))
    (hwf : i.wellFormed = true) (hf : encodeFrame i = some frame) :
    judgeSurvey frame = .good i ∧
      ∃ l rest, frame = l :: rest ∧ badLength l = false ∧ rest.length = l.toNat + 1 := by
  have hpl := decodePayload_encodePayload hi hwf
  have hle := encodePayload_length_le i
  rw [encodeFrame, hi] at hf
  obtain rfl := Option.some.inj hf
  generalize encodePayload i = pl at hpl hle
  have hlen : (BitVec.ofNat 8 (pl.length + 1)).toNat = pl.length + 1 := toNat_length (by omega)
  have hsum := byteSum_checked ([BitVec.ofNat 8 (pl.length + 1), r.code] ++ pl)
  refine ⟨?_, BitVec.ofNat 8 (pl.length + 1), r.code :: (pl ++ [_]), rfl, badLength_eq_false (by omega) (by omega), by simp [hlen]⟩
  generalize checkByte ([BitVec.ofNat 8 (pl.length + 1), r.code] ++ pl) = check at hsum
  have hzero : byteSum (BitVec.ofNat 8 (pl.length + 1) :: r.code :: (pl ++ [check])) = 0 := hsum
  change judgeSurvey (BitVec.ofNat 8 (pl.length + 1) :: r.code :: (pl ++ [check])) = _
  rw [judgeSurvey_long, if_neg (not_not.2 hzero), List.dropLast_concat, judgeRequest_good hpl]

/-- Settles O55: the frame is judged good, and the bytes received end in serving it as its row does. -/
theorem aFrameIsTakenAsItsRequest : Obligations.AFrameIsTakenAsItsRequest := by
  intro i p r frame s hi hwf hf
  refine ⟨?_, ?_⟩
  · rintro rfl
    obtain ⟨hgood, hlen⟩ := judgeMeter_encodeFrame hi hwf hf
    refine ⟨hgood, fun hopen => ?_⟩
    obtain ⟨hv, hl⟩ := State.portOpen_supply hopen
    obtain ⟨t, ht, hd, hclocked⟩ := State.portOpen_meter hopen
    rw [exec_meterFrameReject_good hv hl ht (by omega) hd hgood, exec_arrive s hi, State.arrive_serve hi (.inl rfl)]
  · rintro rfl
    obtain ⟨hgood, l, rest, rfl, hl, hlen⟩ := judgeSurvey_encodeFrame hi hwf hf
    refine ⟨hgood, fun hopen => ?_⟩
    obtain ⟨hvdd, hreset⟩ := State.portOpen_supply hopen
    have hr := State.receiving_of hvdd hreset
    have hrx : s.uart.rx = .hunt := (State.portOpen_hunt hopen).resolve_left (by decide)
    have ho := State.portOpen_survey hopen
    rw [exec_surveyFrameReject, State.receiveBytes_frame hr hrx ho hl hlen, exec_arrive s hi, State.arrive_serve hi (.inr hrx),
      State.judgeFrame, hgood]

end Sys2Proof.Machine

/-! SUPPORT. The survey port's states (section 9.2): receiver, timer, overruns and responses. -/

namespace Sys2Proof.Machine

/-! ## A complete frame judged (R159) -/

section
variable {s : State} {frame : List Byte}

theorem State.judgeFrame_rejected {f : FrameFault} (h : judgeSurvey frame = .reject f) :
    s.judgeFrame frame = s.answeredAtOnce .survey (typeOf frame) (refusal (faultStatus f)) := by
  rw [State.judgeFrame, h]
  rfl

/-- The judgements that reject a frame, by its sum, its code and its payload. -/
theorem State.judgeFrame_long (s : State) (l type : Byte) (rest : List Byte) :
    (((l :: type :: rest).map (·.toNat)).sum % 256 ≠ 0 →
      s.judgeFrame (l :: type :: rest) = s.answeredAtOnce .survey type (refusal .frame)) ∧
    (((l :: type :: rest).map (·.toNat)).sum % 256 = 0 → (∀ r : Req, r.code ≠ type) →
      s.judgeFrame (l :: type :: rest) = s.answeredAtOnce .survey type (refusal .unknown)) ∧
    (((l :: type :: rest).map (·.toNat)).sum % 256 = 0 → ∀ r : Req, r.code = type →
      decodePayload .survey r rest.dropLast = none →
        s.judgeFrame (l :: type :: rest) = s.answeredAtOnce .survey type (refusal .frame)) := by
  simp only [← byteSum_eq_zero_iff, ne_eq]
  refine ⟨fun hsum => ?_, fun hsum hcode => ?_, fun hsum r hr hpl => ?_⟩
  · exact State.judgeFrame_rejected (f := .frame) (if_pos hsum)
  · refine State.judgeFrame_rejected (f := .unknown) ?_
    rw [judgeSurvey_long, if_neg (not_not.2 hsum), judgeRequest_unknown hcode]
  · subst hr
    refine State.judgeFrame_rejected (f := .frame) ?_
    rw [judgeSurvey_long, if_neg (not_not.2 hsum), judgeRequest_frame hpl]

/-- A frame judged good is served as its request's row, with the receiver back in HUNT. -/
theorem State.judgeFrame_good {l : Byte} {rest : List Byte} {r : Req} {i : Instr} (hr : s.receiving = true)
    (hsum : ((l :: r.code :: rest).map (·.toNat)).sum % 256 = 0) (hpl : decodePayload .survey r rest.dropLast = some i) :
    .next (s.judgeFrame (l :: r.code :: rest)) = exec i (s.setUart s.uart.hunting) := by
  have hi := decodePayload_request hpl
  have hgood : judgeSurvey (l :: r.code :: rest) = .good i := by
    rw [judgeSurvey_long, if_neg (not_not.2 ((byteSum_eq_zero_iff _).2 hsum)), judgeRequest_good hpl]
  rw [exec_arrive _ hi, State.arrive_serve hi (.inr rfl), State.judgeFrame, hgood]
  exact congrArg Host.Outcome.next (State.serve_receiver hr .hunt [] false hi).symm

end

theorem exec_surveyFrameOverrun {s : State} (h : s.uart.out ≠ none ∨ s.uart.rx = .discard) (bytes : List Byte) :
    exec (.surveyFrameOverrun bytes) s = .next (s.receiveBytes bytes) := by
  refine congrArg Host.Outcome.next (if_pos ?_)
  simpa [State.dropsFrames, Option.isSome_iff_ne_none] using h

theorem exec_surveyByte {s : State} (hr : s.receiving = true) (b : Byte) :
    exec (.surveyFrameReject [b]) s = .next (s.receiveByte b) :=
  congrArg Host.Outcome.next (State.receiveBytes_single hr b)

/-! ## The timer and the response -/

theorem exec_interByteTimeout_runs {s : State} (hr : s.receiving = true) (ht : s.uart.timer = true) :
    exec .interByteTimeout s = .next s.timeOut :=
  congrArg Host.Outcome.next (if_pos (by rw [hr, ht]; rfl))

theorem exec_operationAnswer {s : State} (h : s.powered = true) (p : Port) : exec (.operationAnswer p) s = .next (s.answer p) :=
  congrArg Host.Outcome.next (if_pos h)

theorem exec_responseSent {s : State} (h : s.powered = true) : exec .responseSent s = .next s.responseSent :=
  congrArg Host.Outcome.next (if_pos h)

/-- Settles O54: one clause per byte, frame or event, each by the receiver's equation for it. -/
theorem surveyPortFollowsItsStates : Obligations.SurveyPortFollowsItsStates := by
  refine ⟨fun c a => ⟨checkByte _, rfl, (byteSum_eq_zero_iff _).1 (byteSum_checked _)⟩, fun s t b rest hexec => ?_,
    fun s bytes h => exec_surveyFrameOverrun h bytes, fun s hv hl => ?_, fun s hv hdue => ?_⟩
  · obtain rfl : s.receiveBytes [b] = t := Host.Outcome.next.inj hexec
    rfl
  · have hr := State.receiving_of hv hl
    intro judged overruns hunting dropped
    have hjudged {bytes : List Byte} {l type : Byte} {rest : List Byte}
        (h : s.receiveBytes bytes = s.judgeFrame (l :: type :: rest)) : judged bytes l type rest := by
      have hexec : exec (.surveyFrameReject bytes) s = .next (s.judgeFrame (l :: type :: rest)) := congrArg Host.Outcome.next h
      obtain ⟨hsum, hcode, hpl⟩ := s.judgeFrame_long l type rest
      exact ⟨fun h1 => hexec.trans (congrArg _ (hsum h1)), fun h1 h2 => hexec.trans (congrArg _ (hcode h1 h2)),
        fun h1 r h2 h3 => hexec.trans (congrArg _ (hpl h1 r h2 h3))⟩
    refine ⟨fun hrx ho => ⟨fun b hb => ?_, ?_, fun l hbad => ?_, fun l type rest h1 h2 hlen => ?_⟩,
      fun hrx b => ⟨fun hbuf hbad => ?_, fun l rest hbuf h1 h2 hlen => ?_, fun l type rest hbuf h1 h2 hlen => ⟨?_, ?_⟩⟩,
      fun hrx ho => ⟨?_, fun l rest h1 h2 hlen => ?_⟩,
      fun hrx => ⟨fun hbuf b hbad => ?_, fun b l rest hbuf h1 h2 hlen => ?_, fun tail l rest hne hbuf h1 h2 hlen => ?_⟩,
      fun ht => ⟨fun hrx => ?_, fun hrx => ?_⟩, fun ht => ?_⟩
    · rw [exec_surveyByte hr, State.receiveByte_stray hrx hb]
    · rw [exec_surveyByte hr, State.receiveByte_sync hrx ho]
      rfl
    · refine congrArg Host.Outcome.next ?_
      rw [State.receiveBytes_of_receiving hr, State.receiveByte_sync hrx ho, State.receiveBytes_single (by exact hr),
        State.receiveByte_badLength rfl rfl ((badLength_iff l).2 hbad)]
      rfl
    · exact hjudged (State.receiveBytes_frame hr hrx ho (badLength_eq_false h1 h2) (congrArg (· + 1) hlen))
    · rw [exec_surveyByte hr, State.receiveByte_badLength hrx hbuf ((badLength_iff b).2 hbad)]
      rfl
    · rw [exec_surveyByte hr, State.receiveByte_collect (by rw [hrx]; decide) hbuf (badLength_eq_false h1 h2) hlen]
      rfl
    · refine hjudged ((State.receiveBytes_single hr b).trans ?_)
      exact State.receiveByte_judge hrx hbuf (badLength_eq_false h1 h2) (congrArg (· + 1) hlen)
    · rintro hsum r i rfl hpl
      rw [exec_surveyByte hr, State.receiveByte_judge hrx hbuf (badLength_eq_false h1 h2) (congrArg (· + 1) hlen)]
      exact State.judgeFrame_good hr hsum hpl
    · rw [exec_surveyFrameOverrun (.inl ho), State.receiveBytes_single hr, State.receiveByte_overrun hrx ho]
      rfl
    · rw [exec_surveyFrameOverrun (.inl ho), State.receiveBytes_of_receiving hr, State.receiveByte_overrun hrx ho,
        State.receiveBytes_drop (by exact hr) (List.cons_ne_nil l rest) rfl (badLength_eq_false h1 h2) hlen rfl]
      exact congrArg (fun x => Host.Outcome.next { s with uart := { s.uart with
        rx := x, buf := [], timer := false, overruns := overruns } }) hrx.symm
    · rw [exec_surveyFrameOverrun (.inr hrx), State.receiveBytes_single hr,
        State.receiveByte_badLength_discard hrx hbuf ((badLength_iff b).2 hbad)]
      rfl
    · rw [exec_surveyFrameOverrun (.inr hrx), State.receiveBytes_single hr,
        State.receiveByte_collect (by rw [hrx]; decide) hbuf (badLength_eq_false h1 h2) hlen]
      rfl
    · rw [exec_surveyFrameOverrun (.inr hrx), State.receiveBytes_drop hr hne hbuf (badLength_eq_false h1 h2) hlen hrx]
      rfl
    · rw [exec_interByteTimeout_runs hr ht, State.timeOut, hrx]
      obtain hbuf | ⟨x, hbuf⟩ | ⟨x, y, zs, hbuf⟩ : s.uart.buf = [] ∨ (∃ x, s.uart.buf = [x]) ∨ ∃ x y zs, s.uart.buf = x :: y :: zs := by
        rcases s.uart.buf with _ | ⟨x, _ | ⟨y, zs⟩⟩ <;> simp
      all_goals rw [hbuf]; rfl
    · rw [exec_interByteTimeout_runs hr ht, State.timeOut, hrx]
      rfl
    · exact congrArg Host.Outcome.next (if_neg (by rw [ht, Bool.and_false]; decide))
  · have hp : s.powered = true := by rw [State.powered, hv, hdue]; rfl
    refine ⟨fun o ho => ⟨?_, fun hs => ?_, fun hs => ?_⟩, fun ho => ⟨?_, ?_⟩⟩
    · rw [exec_operationAnswer hp, State.answer]
      simp only [ho]
      rfl
    · rw [exec_responseSent hp, State.responseSent]
      simp only [ho, hs, if_true]
      rfl
    · rw [exec_responseSent hp, State.responseSent]
      simp only [ho, hs, Bool.false_eq_true, if_false]
    · rw [exec_operationAnswer hp, State.answer]
      simp only [ho]
    · rw [exec_responseSent hp, State.responseSent]
      simp only [ho]

end Sys2Proof.Machine

/-! SUPPORT. The digest (section 8.6), supplies and restarts (section 7.6), the meter port's transactions (section 9.1), and the first
power-on. -/

namespace Sys2Proof.Machine

/-! ## The digest and the loss of an image -/

theorem digestOf_nil : digestOf [] = 0 := by decide

theorem digestOf_append (bytes : List Byte) (x : Byte) : digestOf (bytes ++ [x]) = ~~~(digestByte (~~~digestOf bytes) x) := by
  rw [digestOf, digestOf, List.foldl_append, BitVec.not_not]
  rfl

theorem exec_digestComplete_idle {s : State} (h : ¬(s.storeLive && s.store.computing) = true) : exec .digestComplete s = .next s :=
  congrArg Host.Outcome.next (if_neg h)

/-- Settles O45: the digest is a fold over the bytes, and both events are guarded. -/
theorem digestAndImageLoss : Obligations.DigestAndImageLoss := by
  refine fun s b => ⟨fun hlive hc => congrArg Host.Outcome.next (if_pos (by rw [hlive, hc]; rfl)), fun h => ?_,
    fun bytes x => ⟨digestOf_nil, digestOf_append bytes x⟩, fun reg x => rfl, fun k => ?_,
    fun hv => congrArg Host.Outcome.next (if_pos hv), fun hv => ?_⟩
  · refine exec_digestComplete_idle ?_
    rw [Bool.and_eq_true]
    rintro ⟨hlive, hc⟩
    simp only [State.storeLive, State.mainLive, Bool.and_eq_true, bne_iff_ne] at hlive
    obtain ⟨⟨-, hmain⟩, hconstants⟩ := hlive
    obtain h | h | h := h
    · exact absurd (hc.symm.trans h) (by decide)
    · exact hmain h
    · exact hconstants h
  · simp only [Constants.image, CalBlock.image, TideBlock.image, List.append_assoc]
  · refine congrArg Host.Outcome.next ((if_neg (by rw [hv]; decide)).trans ?_)
    cases b <;> rfl

/-! ## Restarts -/

/-- What a restart leaves that does not lose the retained domain (R139 to R141, R145). -/
theorem State.beginRestart_eq_of_kept (s : State) {c : Cause} (hc : c ≠ .powerLost) :
    s.beginRestart c =
      { s with
        log := { s.log with records := s.log.records.map (abandonRecord s.clock.value c.endCause) }
        survey := { s.survey with lastCause := c }
        meter := { s.meter with slot := .idle, txn := none }
        uart := { s.uart with rx := .hunt, buf := [], timer := false, out := none }
        store := { s.store with commit := none }
        supply := { s.supply with restartDue := false }
        startUp := some .mainDomain } := by
  rw [State.beginRestart, if_neg hc]
  rfl

theorem Supply.ready_eq {x : Supply} (hv : x.vdd = true) (hl : x.resetLow = false) :
    { x with restartDue := false } = { vdd := true, vbak := x.vbak, resetLow := false, restartDue := false } := by
  rw [hv, hl]

/-- Settles O47: each event begins its restart or changes its pin. -/
theorem restartBegins : Obligations.RestartBegins := by
  intro s p cut kept lost up
  have hretained {x : Supply} {c : Cause} (hc : c ≠ .powerLost) (hx : { x with restartDue := false } = up) :
      (s.setSupply x).beginRestart c = cut (kept c.endCause) c up := by
    rw [State.beginRestart_eq_of_kept _ hc, ← hx]
    rfl
  have hlost {x : Supply} (hx : { x with restartDue := false } = up) :
      (s.setSupply x).beginRestart .powerLost = cut lost .powerLost up := by
    rw [← hx]
    rfl
  refine ⟨fun hv => congrArg Host.Outcome.next (if_pos hv), fun hv hl => ?_, fun hv hl hm => ?_, fun hv hl hm => ?_,
    fun hl => congrArg Host.Outcome.next (if_neg (by rw [hl]; decide)), fun hl hv => ?_,
    fun hl hv => ⟨fun hd => ?_, fun hd hm => ?_, fun hd hm => ?_⟩, fun hready => ?_⟩
  · refine congrArg Host.Outcome.next ((if_neg (by rw [hv]; decide)).trans ?_)
    exact if_pos hl
  · rw [exec_vddRise_restarts hv hl, State.powerCause_of_mark hm, hretained (by decide) (by rw [hl])]
    rfl
  · rw [exec_vddRise_restarts hv hl, State.powerCause_of_noMark hm, hlost (by rw [hl])]
  · refine congrArg Host.Outcome.next ((if_pos hl).trans ?_)
    exact if_neg (by rw [hv]; decide)
  · rw [exec_resetnRelease_restarts hv hl, if_neg (by rw [hd]; decide), hretained (by decide) (by rw [hv])]
    rfl
  · rw [exec_resetnRelease_restarts hv hl, if_pos hd, State.powerCause_of_mark hm, hretained (by decide) (by rw [hv])]
    rfl
  · rw [exec_resetnRelease_restarts hv hl, if_pos hd, State.powerCause_of_noMark hm, hlost (by rw [hv])]
  · have hopen : s.portOpen p 0 = true := (Bool.and_eq_true_iff.1 hready).1
    obtain ⟨hv, hl⟩ := State.portOpen_supply hopen
    rw [exec_softReset_restarts hready, State.beginRestart_eq_of_kept _ (by decide)]
    have hup : { s.supply with restartDue := false } = up := Supply.ready_eq hv hl
    rw [← hup]
    cases p <;> rfl

/-- Settles O48: each stage is one equation. -/
theorem startUpStagesInOrder : Obligations.StartUpStagesInOrder := by
  refine fun s baudsel => ⟨fun h => ?_, fun hv hl => ⟨fun hs => ?_, fun hs => ?_, fun hs => ?_⟩⟩
  · refine congrArg Host.Outcome.next ?_
    split_ifs with hr
    · have hnone : s.startUp = none := h.resolve_right fun h => by
        simp only [State.receiving, Bool.and_eq_true, Bool.not_eq_true'] at hr
        rw [hr.1, hr.2] at h
        exact absurd h (by decide)
      rw [State.takeStage, hnone]
    · rfl
  · rw [exec_startUpStage_takes hv hl, State.takeStage, hs]
    rfl
  · rw [exec_startUpStage_takes hv hl, State.takeStage, hs]
    rfl
  · rw [exec_startUpStage_takes hv hl, State.takeStage, hs]
    rfl

/-- Settles O50: a failing supply takes the free values of its domain alone. -/
theorem suppliesFallAndFail : Obligations.SuppliesFallAndFail := by
  intro s vbak retained
  refine ⟨fun hv => ⟨s.vddFalls vbak, congrArg Host.Outcome.next (if_pos hv), ?_⟩,
    fun hv => congrArg Host.Outcome.next (if_neg (by rw [hv]; decide)), fun hv => congrArg Host.Outcome.next (if_pos hv),
    fun hv => ⟨s.vbakFails, rfl, ?_⟩, rfl⟩
  · cases vbak with
    | false => exact ⟨rfl, rfl, rfl, fun h => absurd h (by decide), fun _ => rfl⟩
    | true => exact ⟨rfl, rfl, rfl, fun _ => ⟨rfl, rfl, rfl, rfl, rfl, rfl, rfl⟩, fun h => absurd h (by decide)⟩
  · have hfails : s.vbakFails = (s.setSupply { s.supply with vbak := false }).nextFree.retainedFrom (Config.lostState s.free) :=
      if_neg (by rw [hv]; decide)
    rw [hfails]
    exact ⟨rfl, rfl, rfl, rfl⟩

/-- The stages of a POWER_LOST restart with images never written leave what reset holds. -/
theorem State.stages_of_powerLost {s : State} (hnv : s.nv = .blank) (x : Supply) :
    (((((s.setSupply x).beginRestart .powerLost).takeStage false).takeStage false).takeStage false).takeStage false =
      { State.reset with
        supply := { x with restartDue := false }
        pins := s.pins
        free := s.free
        pauses := s.pauses
        pending := s.pending } := by
  obtain ⟨⟩ := s
  obtain rfl := hnv
  rfl

/-- Settles O51: POWER_LOST clears the retained domain, and each stage writes its own part of what reset holds. -/
theorem firstPowerOnReachesReset : Obligations.FirstPowerOnReachesReset := by
  intro s hv hl hm hnv
  have hrise := exec_vddRise_restarts hv hl
  rw [State.powerCause_of_noMark hm] at hrise
  have hlast := State.stages_of_powerLost hnv { s.supply with vdd := true }
  have hstage {u : State} (hu : u.supply = { s.supply with vdd := true, restartDue := false }) :
      exec (.startUpStage false) u = .next (u.takeStage false) :=
    exec_startUpStage_takes (by rw [hu]) (by rw [hu]; exact hl) false
  have hready : { s.supply with vdd := true, restartDue := false } = { State.reset.supply with vbak := s.supply.vbak } :=
    congrArg (fun low => ({ vdd := true, vbak := s.supply.vbak, resetLow := low, restartDue := false } : Supply)) hl
  have hkept (u : State) : (u.takeStage false).supply = u.supply := by simp
  rw [hready] at hstage
  refine ⟨_, _, _, _, hrise, hstage ?_, hstage ?_, hstage ?_, (hstage ?_).trans (congrArg Host.Outcome.next (hlast.trans ?_))⟩
  · exact hready
  · rw [hkept]
    exact hready
  · rw [hkept, hkept]
    exact hready
  · rw [hkept, hkept, hkept]
    exact hready
  · rw [← hready]

/-! ## The invariants at reset -/

/-- Settles O60: reset's log, tables and queue are empty, and its constants are the factory defaults that blank images hold. -/
theorem resetHasEveryInvariant : Obligations.ResetHasEveryInvariant := by
  refine ⟨fun _ => by decide, fun _ => by decide, fun _ p => by cases p <;> decide, fun _ _ => (nomatch ·), fun _ => ?window, ?records,
    fun _ => ?queue, fun _ _ => (nomatch ·), fun _ => ?store⟩
  case window => exact ⟨by decide, fun _ => (nomatch ·), absurd rfl⟩
  case records =>
    have hactive : State.reset.activeInv := fun _ => ⟨fun _ => ⟨fun _ => (nomatch ·), fun _ => (nomatch ·)⟩, fun _ => (nomatch ·)⟩
    have hties : State.reset.tieInv := fun _ => ⟨fun _ => (nomatch ·), fun _ => (nomatch ·)⟩
    exact ⟨(nomatch ·), fun _ => by unfold Log.wf; decide, hactive, hties⟩
  case queue => exact ⟨by decide, .nil, fun _ => (nomatch ·), absurd rfl, (nomatch ·)⟩
  case store => exact ⟨Images.constants_inRange .blank, fun b _ => Constants.agree_refl _ b⟩

/-! ## Frames and images (R158, R162, R163) -/

theorem leNat_length (k x : Nat) : (leNat k x).length = k := by
  induction k generalizing x with
  | zero => rfl
  | succ k ih => rw [leNat, List.length_cons, ih]

theorem leInt_length (k : Nat) (x : Int) : (leInt k x).length = k := leNat_length k _

theorem Result.bytes_length (r : Option Result) : (Result.bytes r).length = 16 := by
  cases r <;> simp [Result.bytes, leNat_length, leInt_length]

theorem Record.image_length (r : Record) : r.image.length = 64 := by
  simp [Record.image, leNat_length, leInt_length, Result.bytes_length]

theorem StatusReport.image_length (r : StatusReport) : r.image.length = 28 := by
  simp [StatusReport.image, leNat_length, leInt_length]

theorem LiveReport.image_length (r : LiveReport) : r.image.length = 56 := by
  cases h : r.live <;> simp [LiveReport.image, h, leNat_length, leInt_length]

theorem ItemValue.image_length (v : ItemValue) :
    v.image.length = match v with
      | .calHeader .. => 4 | .calInterval _ => 8 | .sensor _ => 16 | .tideHeader .. => 4 | .constituent _ => 12
      | .settle _ => 8 | .loop _ => 8 := by
  cases v <;> simp [ItemValue.image, leNat_length, leInt_length]

/-! ## The meter port's transactions (R157) -/

theorem misoBytes_nil (n : Nat) : misoBytes [] n = List.replicate n 0 := by
  rw [misoBytes, List.nil_append, List.take_of_length_le (by simp)]

theorem misoBytes_busy (n : Nat) : misoBytes [0x80] (n + 1) = 0x80 :: List.replicate n 0 := by
  simp [misoBytes, List.take_replicate]

section
variable {s : State} {n : Nat}

theorem State.csFall_idle (h : s.meter.slot = .idle) :
    s.csFall (n + 1) = { s with
      meter := { s.meter with slot := .idle, txn := some { discard := false, clocked := n + 1 } }
      pins := { s.pins with miso := List.replicate (n + 1) 0 } } := by
  rw [State.csFall, ← misoBytes_nil]
  simp only [h]
  rw [← h]
  rfl

theorem State.csFall_taking {r : Response} (h : s.meter.slot = .taking r) :
    s.csFall (n + 1) = { s with
      meter := { s.meter with slot := .taking r, txn := some { discard := true, clocked := n + 1 } }
      pins := { s.pins with miso := 0x80 :: List.replicate n 0 } } := by
  rw [State.csFall, ← misoBytes_busy]
  simp only [h]
  rw [← h]
  rfl

theorem State.csFall_holding {r : Response} (h : s.meter.slot = .holding r) :
    s.csFall (n + 1) = { s with
      meter := { s.meter with slot := .idle, txn := some { discard := false, clocked := n + 1 } }
      pins := { s.pins with miso := (meterFrame r ++ List.replicate (n + 1) 0).take (n + 1) } } := by
  rw [State.csFall]
  simp only [h]
  rfl

end

theorem MeterPort.discards_eq_false {m : MeterPort} (h : ∀ t, m.txn = some t → t.discard = false) : m.discards = false := by
  cases ht : m.txn with
  | none => rw [MeterPort.discards, ht]
  | some t =>
    rw [MeterPort.discards, ht]
    exact h t ht

/-- Settles O52: the frame's shape, the tables of codes and sizes, and each event's cases of the slot. -/
theorem meterTransactions : Obligations.MeterTransactions := by
  refine ⟨fun a => ⟨checkByte _, rfl, (byteSum_eq_zero_iff _).1 (byteSum_checked _)⟩, by decide, LiveReport.image_length,
    StatusReport.image_length, Record.image_length, ItemValue.image_length, fun s n hv hl => ?_⟩
  have hr := State.receiving_of hv hl
  intro fall
  have hfall {t : State} (h : s.csFall n = t) : exec (.csnFall n) s = .next t :=
    congrArg Host.Outcome.next ((if_pos hr).trans h)
  refine ⟨fun h => ?_, fun hn => ?_, fun txn ht hd => ?_, fun h => ?_, fun hdue => ?_⟩
  · subst h
    exact hfall rfl
  · obtain ⟨n, rfl⟩ := Nat.exists_eq_succ_of_ne_zero hn.ne'
    exact ⟨fun h => hfall (State.csFall_idle h), fun r h => hfall (State.csFall_taking h), fun r h => hfall (State.csFall_holding h)⟩
  · have hdiscards : s.meter.discards = true := by rw [MeterPort.discards, ht]; exact hd
    exact congrArg Host.Outcome.next (if_pos (by rw [hr, hdiscards]; rfl))
  · exact congrArg Host.Outcome.next (if_neg (by rw [MeterPort.discards_eq_false h, Bool.and_false]; decide))
  · have hp : s.powered = true := by rw [State.powered, hv, hdue]; rfl
    refine ⟨fun r h => ?_, fun h => ?_⟩
    · rw [exec_operationAnswer hp, State.answer]
      simp only [h]
      rfl
    · rw [exec_operationAnswer hp, State.answer]
      cases hslot : s.meter.slot with
      | idle => simp only
      | taking r => exact absurd hslot (h r)
      | holding r => simp only

end Sys2Proof.Machine
